-- ==== Sys2Proof/Word.lean ====
section
/-! DEFINITION. The byte, and the types of page, class and timer that every block shares. -/

namespace Sys2Proof

/-- A byte on a link, in a tile record or in a slot. -/
abbrev Byte := BitVec 8

/-- A page index of the Tile Map (R2): 0..255. -/
abbrev Page := Fin 256

/-- A class number (R6): 0..15. -/
abbrev ClassNo := Fin 16

/-- A timer: `none` is stopped, `some n` is running with `n` ms left. -/
abbrev Timer := Option Nat

end Sys2Proof
end

