-- ==== Sys2Proof/Syntax.lean ====
section
/-! DEFINITION. The commands of the part: one constructor per row of spec/opcode_table.json, with its operands. -/

namespace Sys2Proof

/-- The three serial links (chapter 10). -/
inductive Link where
  | n | d | s
  deriving DecidableEq, Repr

/-- How far a save had got on the medium when it was cut (the steps of R150). -/
inductive SaveReach where
  /-- Step 1, before any writing of the begun mark. -/
  | beginNotWriting
  /-- Step 1, the begun mark being written (a slot saved before is left as it is). -/
  | beginWriting
  /-- Step 2, ahead of the erase of the complete mark. -/
  | eraseNotErasing
  /-- Step 2, the complete mark or the data area being erased. -/
  | erasing
  /-- Step 3. -/
  | programming
  /-- Step 4. -/
  | marking
  deriving DecidableEq, Repr

/-- The step whose check failed (R150, R156). -/
inductive FailStep where
  | erase | program | mark
  deriving DecidableEq, Repr

/-- Which half of a drive period event is taken first: the envelope computation or the Segment
Queue's period handling. R54 and R89 let either be first (log entry 4). -/
inductive PeriodOrder where
  | envelopeFirst | queueFirst
  deriving DecidableEq, Repr

/-- One constructor per row of the table. The payload of an N-link request is the bytes of its
frame's payload as carried, whatever their number (R187); a QUERY carries its request number and its
argument bytes, its subject being the row's own (R183). -/
inductive Instr where
  /-- POWER_ON_RESET: the levels of NRATE1 and NRATE0, and how far a running save had got. -/
  | powerOnReset (nrate1 nrate0 : Bool) (reach : SaveReach)
  /-- PIN_RESET: the same operands. -/
  | pinReset (nrate1 nrate0 : Bool) (reach : SaveReach)
  | endOfStartUp
  | move (payload : List Byte)
  | keep (payload : List Byte)
  | resume (payload : List Byte)
  | dock (payload : List Byte)
  | undock (payload : List Byte)
  | pose (payload : List Byte)
  | tileFill (payload : List Byte)
  | tileRun (payload : List Byte)
  | classRecord (payload : List Byte)
  | beacon (payload : List Byte)
  | config (payload : List Byte)
  | mask (payload : List Byte)
  | ack (payload : List Byte)
  | save (payload : List Byte)
  | storeClear (payload : List Byte)
  | queryStatus (req : Byte) (args : List Byte)
  | querySegments (req : Byte) (args : List Byte)
  | queryTiles (req : Byte) (args : List Byte)
  | queryClass (req : Byte) (args : List Byte)
  | queryBeacon (req : Byte) (args : List Byte)
  | queryConfig (req : Byte) (args : List Byte)
  | queryPages (req : Byte) (args : List Byte)
  | queryCounters (req : Byte) (args : List Byte)
  | reset (payload : List Byte)
  /-- UNKNOWN_KIND: an intact N-link frame that no other row names (log entry 17). -/
  | unknownKind (kind : Byte) (payload : List Byte)
  /-- FRAME_DISCARD: the bytes newly received inside the frame, and whether the next byte had a byte
  error (R176). -/
  | frameDiscard (link : Link) (bytes : List Byte) (byteError : Bool)
  /-- INTER_BYTE_TIMEOUT: the bytes newly received inside the frame before the gap. -/
  | interByteTimeout (link : Link) (bytes : List Byte)
  /-- WRONG_KIND_FRAME: an intact D-link or S-link frame. -/
  | wrongKindFrame (link : Link) (kind : Byte) (payload : List Byte)
  | odom (payload : List Byte)
  | sense (payload : List Byte)
  | drivePeriod (order : PeriodOrder)
  | responseTimerExpiry
  | guardTimerExpiry
  | cadenceExpiry
  | limpGraceExpiry
  | sensorLossExpiry
  | approachTimerExpiry
  | beamLostExpiry
  | settleExpiry
  | telemetryExpiry
  | completion
  | verifyFailure (step : FailStep)
  | departure
  /-- POWER_LOSS: how far a running save had got. -/
  | powerLoss (reach : SaveReach)
  | syncFound (link : Link)
  deriving DecidableEq, Repr

end Sys2Proof
end

