-- ==== Sys2Proof/Decode.lean ====
section
/-! DEFINITION. What command a word of the table's bits spells. -/

namespace Sys2Proof

/-- The command that the table's bits spell. No row of spec/opcode_table.json gives bits: a command
reaches this block as a frame, a pin, a timer or the supply, never as an instruction word, so no word
spells one (log entry 24). -/
def decodeTableWord (_nbits _w : Nat) : Option Instr := none

end Sys2Proof
end

