-- ==== Sys2Proof/Machine/Frames.lean ====
section
/-! DEFINITION. Frames on the links: kinds, reply codes, how numbers are carried, the frame check, and the receivers (chapter 10). -/

namespace Sys2Proof.Machine

/-! ## Kinds and codes -/

/-- The downstream kinds of the N-link (section 10.4). -/
inductive NKind where
  | move | keep | resume | dock | undock | pose | tileFill | tileRun | classRecord | beacon
  | config | mask | ack | save | storeClear | query | reset
  deriving DecidableEq, Repr

/-- The kind byte of each downstream kind (section 10.4). -/
def NKind.code : NKind → Byte
  | .move => 0x10 | .keep => 0x11 | .resume => 0x12 | .dock => 0x13 | .undock => 0x14 | .pose => 0x15
  | .tileFill => 0x20 | .tileRun => 0x21 | .classRecord => 0x22 | .beacon => 0x23
  | .config => 0x30 | .mask => 0x31 | .ack => 0x32 | .save => 0x33 | .storeClear => 0x34
  | .query => 0x38 | .reset => 0x3F

def NKind.all : List NKind :=
  [.move, .keep, .resume, .dock, .undock, .pose, .tileFill, .tileRun, .classRecord, .beacon,
   .config, .mask, .ack, .save, .storeClear, .query, .reset]

/-- The downstream kind a kind byte names, if it names one. -/
def NKind.ofByte (b : Byte) : Option NKind := NKind.all.find? (fun k => k.code == b)

def kindReply : Byte := 0x80
def kindNote : Byte := 0x81
def kindTele : Byte := 0x82
def kindSenseUp : Byte := 0x83
def kindDrive : Byte := 0x40
def kindBrake : Byte := 0x41
def kindOdom : Byte := 0xC0
def kindSense : Byte := 0xD0

/-- The reply codes (the table under R180). -/
inductive ReplyCode where
  | ok | clamped | full | stale | range | state | yielded | halted | storeError | length | kind
  deriving DecidableEq, Repr

def ReplyCode.byte : ReplyCode → Byte
  | .ok => 0 | .clamped => 1 | .full => 2 | .stale => 3 | .range => 4 | .state => 5
  | .yielded => 6 | .halted => 7 | .storeError => 8 | .length => 9 | .kind => 10

/-- OK, or CLAMPED where some value was clamped. -/
def ReplyCode.okOr (wasClamped : Bool) : ReplyCode := if wasClamped then .clamped else .ok

/-- The reply an owner composes: its code and the data after it (R188). -/
structure Reply where
  code : ReplyCode
  data : List Byte
  deriving DecidableEq, Repr

/-! ## Frames and the frame check (R177) -/

/-- A whole frame: its kind and its payload. -/
structure Frame where
  kind : Byte
  payload : List Byte
  deriving DecidableEq, Repr

/-- The two bytes of a 16-bit field, low byte first. -/
def bytes16 (b : BitVec 16) : List Byte := [b.extractLsb' 0 8, b.extractLsb' 8 8]

/-- The four bytes of a 32-bit field, low byte first. -/
def bytes32 (b : BitVec 32) : List Byte :=
  [b.extractLsb' 0 8, b.extractLsb' 8 8, b.extractLsb' 16 8, b.extractLsb' 24 8]

/-- A number in a 1-byte field. -/
def carry8 (n : Nat) : Byte := BitVec.ofNat 8 n

/-- A flag in a 1-byte field. -/
def carryFlag (b : Bool) : Byte := if b then 1 else 0

/-- A number in a 2-byte field, signed or unsigned. -/
def carry16 (n : Int) : List Byte := bytes16 (BitVec.ofInt 16 n)

/-- A number in a 4-byte field, signed or unsigned. -/
def carry32 (n : Int) : List Byte := bytes32 (BitVec.ofInt 32 n)

/-- The unsigned number two bytes carry. -/
def unsigned16 (lo hi : Byte) : Nat := lo.toNat + 256 * hi.toNat

/-- The signed number two bytes carry. -/
def signed16 (lo hi : Byte) : Int := (hi ++ lo : BitVec 16).toInt

/-- The signed number four bytes carry. -/
def signed32 (b0 b1 b2 b3 : Byte) : Int := (b3 ++ b2 ++ b1 ++ b0 : BitVec 32).toInt

/-- One step of the CRC register for the generator x^16 + x^12 + x^5 + 1. -/
def crcBit (r : BitVec 16) : BitVec 16 := if r.msb then (r <<< 1) ^^^ 0x1021 else r <<< 1

/-- One byte into the CRC register, most significant bit first. -/
def crcByte (r : BitVec 16) (b : Byte) : BitVec 16 :=
  (List.range 8).foldl (fun r _ => crcBit r) (r ^^^ (b.setWidth 16 <<< 8))

/-- CHECK over the given bytes (R177). -/
def crc (bytes : List Byte) : BitVec 16 := bytes.foldl crcByte 0xFFFF

/-- The bytes CHECK is computed over: KIND, LEN and the payload. -/
def Frame.body (f : Frame) : List Byte := f.kind :: carry8 f.payload.length :: f.payload

/-- The frame as it goes on a line (R177). -/
def Frame.wire (f : Frame) : List Byte := 0xC5 :: (f.body ++ bytes16 (crc f.body))

/-! ## Receivers (R178) -/

/-- A receiver hunts, or is in a frame. `got` is what it has already received after that frame's
SYNC: bytes that a discard made it scan again. -/
inductive Receiver where
  | hunting
  | inFrame (got : List Byte)
  deriving DecidableEq, Repr

/-- Hunting through bytes already received: the first 0xC5 starts a frame. -/
def Receiver.hunt : List Byte → Receiver
  | [] => .hunting
  | b :: rest => if b = 0xC5 then .inFrame rest else Receiver.hunt rest

/-- The bytes after SYNC make a frame that is not yet whole and not yet refused by its LEN. -/
def incomplete : List Byte → Bool
  | _ :: len :: rest => decide (len.toNat ≤ 200) && decide (rest.length < len.toNat + 2)
  | _ => true

/-- CHECK matches in the bytes after SYNC of a whole frame. -/
def checkMatches : List Byte → Bool
  | kind :: len :: rest =>
    (rest.drop len.toNat).take 2 == bytes16 (crc (kind :: len :: rest.take len.toNat))
  | _ => false

/-- The receiver discards the frame whose bytes after SYNC these are: LEN above 200, a byte error
while the frame is still incomplete, or a CHECK that does not match. -/
def discards (received : List Byte) (byteError : Bool) : Bool :=
  if incomplete received then byteError
  else match received with
    | _ :: len :: _ => decide (200 < len.toNat) || !checkMatches received
    | _ => false

/-- The receiver after an intact frame of `n` payload bytes was handed on: it hunts from the byte
after CHECK. -/
def Receiver.afterFrame (n : Nat) : Receiver → Receiver
  | .hunting => .hunting
  | .inFrame got => .hunt (got.drop (n + 4))

/-! ## Lengths of requests (R187) -/

/-- The number of argument bytes each QUERY subject requires. -/
def queryArguments : Nat → Nat
  | 2 => 4
  | 5 => 1
  | 6 => 1
  | 7 => 1
  | _ => 0

/-- Case 4 of R180: the reply to a payload that the kind's layout does not allow. A QUERY's subject
is judged before its length (R183). -/
def lengthRefusal (k : NKind) (payload : List Byte) : Option Reply :=
  let orLength (good : Bool) : Option Reply := if good then none else some ⟨.length, []⟩
  let n := payload.length
  match k with
  | .move => orLength (n == 13)
  | .keep => orLength (n == 2)
  | .resume | .dock | .undock | .reset => orLength (n == 1)
  | .pose => orLength (n == 12)
  | .tileFill => orLength (n == 7)
  | .tileRun => orLength (decide (5 ≤ n) && decide (n ≤ 195) && n == 5 + (payload.getD 4 0).toNat)
  | .classRecord => orLength (n == 9)
  | .beacon => orLength (n == 7)
  | .config => orLength (n == 6)
  | .mask => orLength (n == 3)
  | .ack => orLength (n == 3)
  | .save => orLength (n == 3)
  | .storeClear => orLength (n == 2)
  | .query =>
    match payload with
    | _ :: subject :: args =>
      if 7 < subject.toNat then some ⟨.range, [subject]⟩
      else orLength (args.length == queryArguments subject.toNat)
    | _ => some ⟨.length, []⟩

end Sys2Proof.Machine
end

