-- ==== Sys2Proof/Machine/Blocks.lean ====
section
/-! DEFINITION. The records each block of the part holds, as plain data (chapters 1 to 10). -/

namespace Sys2Proof.Machine

/-! ## Sparse tables in one canonical form -/

/-- Entries by key, keys strictly rising, an unlisted key holding a default that is never listed. -/
abbrev Table (β : Type) := List (Nat × β)

/-- The tile bytes, or the data area of a slot: an unlisted address reads 0x00, the blank tile (R5). -/
abbrev Memory := List Host.Cell

/-! ## Link ports (chapter 10) -/

/-- Whether the part has supply, and whether start-up is still going on (00 "Resets", R23, R150). -/
inductive Phase where
  | off | startUp | running
  deriving DecidableEq, Repr

/-- The N-link rate (R176). -/
inductive NRate where
  | mbit1 | mbit2 | mbit3
  deriving DecidableEq, Repr

/-- The link ports: the sampled rate, a receiver per link, the output queue (R181), the D-link
transmitter's queue (R179), and the bytes last put on NTX and on DTX. -/
structure LinkPorts where
  rate : NRate
  rxN : Receiver
  rxD : Receiver
  rxS : Receiver
  out : List Frame
  dTx : List Frame
  nWire : List Byte
  dWire : List Byte
  deriving DecidableEq, Repr

/-! ## Tile Map and Class Table (chapter 1) -/

/-- Main brush settings, OFF < LOW < NORMAL < HIGH (R6). -/
inductive Brush where
  | off | low | normal | high
  deriving DecidableEq, Repr

/-- A class record (R6). -/
structure ClassRecord where
  blocks : Bool
  cap : Nat
  brush : Brush
  side : Bool
  cliff : Nat
  deriving DecidableEq, Repr

/-- The tiles, a dirty flag per page (R17), and the Class Table. The tile at position `i` of page `p`
(R2) has address `256 * p + i`. -/
structure TileMap where
  tiles : Memory
  dirty : Vector Bool 256
  classes : Vector ClassRecord 16
  deriving DecidableEq, Repr

/-! ## Pose Unit (chapter 2) -/

/-- Pose quality, ranked LOST < DEGRADED < GOOD (R24). -/
inductive Quality where
  | lost | degraded | good
  deriving DecidableEq, Repr

/-- The pose record and the odometry state (R24). -/
structure PoseUnit where
  x : Int
  y : Int
  h : Nat
  quality : Quality
  base : Option (Nat × Nat)
  stallL : Nat
  stallR : Nat
  deriving DecidableEq, Repr

/-! ## Segment Queue (chapter 3) -/

inductive ExtentKind where
  | distance | angle | time
  deriving DecidableEq, Repr

inductive SegState where
  | queued | active
  deriving DecidableEq, Repr

/-- A segment record (R43). -/
structure Segment where
  tag : Nat
  v : Int
  w : Int
  kind : ExtentKind
  extent : Nat
  brush : Brush
  side : Bool
  state : SegState
  dist : Nat
  turn : Int
  elapsed : Nat
  held : Nat
  clamped : Bool
  deriving DecidableEq, Repr

/-- The queue, the last beat (none, 0 as `false`, 1 as `true`) and the cadence timer (R44, R47, R57). -/
structure SegmentQueue where
  queue : List Segment
  lastBeat : Option Bool
  cadence : Timer
  deriving DecidableEq, Repr

/-! ## Travel Controller (chapter 3) -/

/-- The nine travel states (R62). -/
inductive Travel where
  | idle | cruise | limp | backoff | halted | approach | docked | fault | locked
  deriving DecidableEq, Repr

inductive BackoffReason where
  | bump | undock
  deriving DecidableEq, Repr

inductive BackoffOutcome where
  | completed | blocked
  deriving DecidableEq, Repr

/-- The back-off record while a back-off runs (R63). -/
structure Backoff where
  reason : BackoffReason
  distance : Nat
  progress : Nat
  held : Nat
  deriving DecidableEq, Repr

/-- The Travel Controller (R62, R63). `outcome` is that of the last back-off that ended by R64 or R65. -/
structure TravelController where
  state : Travel
  yield : Bool
  grace : Timer
  backoff : Option Backoff
  outcome : Option (BackoffOutcome × BackoffReason)
  deriving DecidableEq, Repr

/-! ## Envelope Unit (chapter 4) -/

/-- The envelope record (R69). -/
structure EnvelopeRecord where
  p : Int
  lastD : Int
  lastBound : Int
  left : Int
  right : Int
  deriving DecidableEq, Repr

/-! ## Hazard Unit (chapter 5) -/

inductive CliffLevel where
  | unknown | safe | unsafe_
  deriving DecidableEq, Repr

inductive Gate where
  | armed | spent
  deriving DecidableEq, Repr

/-- A cliff sensor record (R97). -/
structure CliffSensor where
  level : CliffLevel
  gate : Gate
  deriving DecidableEq, Repr

/-- The four cliff sensors by number (R93). -/
inductive Sensor where
  | fl | fr | sl | sr
  deriving DecidableEq, Repr

/-- The Hazard Unit (R94, R97, R104, R106, R108). -/
structure HazardUnit where
  fl : CliffSensor
  fr : CliffSensor
  sl : CliffSensor
  sr : CliffSensor
  dropL : Bool
  dropR : Bool
  bumpL : Bool
  bumpR : Bool
  lastSeq : Option Nat
  loss : Timer
  silent : Bool
  deriving DecidableEq, Repr

/-! ## Drive Exchange (chapter 6) -/

inductive ExPhase where
  | clear | outstanding | answered | missed
  deriving DecidableEq, Repr

inductive FaultKind where
  | driveLost | driveFault | driveStuck
  deriving DecidableEq, Repr

/-- A running period timer: the length of its interval and the ms passed since the period event that
began it (R115). -/
structure Interval where
  length : Nat
  passed : Nat
  deriving DecidableEq, Repr

/-- The exchange record (R114), the two wheel speeds kept with the exchange (R116), and STOP_N (R127):
`true` is high. `fault` is `none` for the kind NONE. -/
structure DriveExchange where
  nextTag : Nat
  exTag : Nat
  phase : ExPhase
  response : Timer
  period : Option Interval
  misses : Nat
  waits : Nat
  guard : Timer
  fault : Option FaultKind
  faultCode : Nat
  sentL : Int
  sentR : Int
  stopN : Bool
  deriving DecidableEq, Repr

/-! ## Dock Approach Unit (chapter 7) -/

inductive Substate where
  | none_ | seek | align | creep | settle
  deriving DecidableEq, Repr

inductive Code where
  | none_ | left | right | center | near
  deriving DecidableEq, Repr

/-- An entry of the Beacon Table (R138). -/
structure BeaconEntry where
  v : Int
  w : Int
  deriving DecidableEq, Repr

/-- The approach record and the Beacon Table, entry (l, r) at 5l + r (R131, R138, R139). -/
structure DockUnit where
  sub : Substate
  codeL : Code
  codeR : Code
  contact : Bool
  approach : Timer
  beamLost : Timer
  settle : Timer
  beacon : Vector BeaconEntry 25
  deriving DecidableEq, Repr

/-! ## Map Store (chapter 8) -/

inductive SlotState where
  | blank | valid | torn
  deriving DecidableEq, Repr

/-- A mark of a slot's header: absent, written, or partly written or partly erased (R150). -/
inductive Mark where
  | absent | written | partly
  deriving DecidableEq, Repr

/-- A slot on the medium (R150). -/
structure Slot where
  begun : Mark
  complete : Mark
  data : Memory
  deriving DecidableEq, Repr

/-- The nonvolatile medium: the slots by page index; an unlisted slot has never been saved. -/
abbrev Medium := Table Slot

/-- The current save: its page and its program buffer (R149). -/
structure CurrentSave where
  page : Page
  buffer : Memory
  deriving DecidableEq, Repr

/-- The store record (R149) and the medium. `failedStep` is `none` for NONE. -/
structure MapStore where
  slots : Vector SlotState 256
  list : List Page
  current : Option CurrentSave
  error : Bool
  failedPage : Option Page
  failedStep : Option FailStep
  medium : Medium
  deriving DecidableEq, Repr

/-! ## Report Unit (chapter 9) -/

inductive ReportClass where
  | hazard | contact | segment | cadence | dock | pose | map | system
  deriving DecidableEq, Repr

inductive ResetCause where
  | power | pin | soft
  deriving DecidableEq, Repr

/-- A NOTE record but for its coalesced count (R164). `extra` is the segment tag or page index where
the event has one. -/
structure Note where
  cls : ReportClass
  code : Nat
  time : Nat
  xmm : Int
  ymm : Int
  h : Nat
  detail : Nat
  extra : Option Nat
  deriving DecidableEq, Repr

/-- A pending record (R163). -/
structure Held where
  note : Note
  count : Nat
  deriving DecidableEq, Repr

/-- The Report Unit (R163, R168, R170 to R174). Bit n of `latches` is the latch at position n, entry n
of `counters` the counter at position n. -/
structure ReportUnit where
  enable : Bool
  masks : Vector Bool 8
  held : Vector (Option Held) 8
  latches : BitVec 12
  counters : Vector Nat 12
  tele : Timer
  fwd : Nat
  timebase : Nat
  cause : ResetCause
  deriving DecidableEq, Repr

end Sys2Proof.Machine
end

