-- ==== Sys2Proof/Machine/Params.lean ====
section
/-! DEFINITION. The parameters of CONFIG: identifier, range, default and whether a parameter is geometry (R182). -/

namespace Sys2Proof.Machine

/-- The 49 parameters, in the order of their identifiers 0x01 to 0x31 (R182). -/
inductive Param where
  | track | tickL | tickR | halfWidth | fwdFL | latFL | fwdFR | latFR | fwdSL | latSL | fwdSR |
  latSR | dockX | dockY | dockH | accel | decel | margin | capHorizon | wheelMax | reverseCap |
  degradedCap | lostCap | limpSpeed | limpGrace | cadenceWindow | cadencePolicy | holdLimit |
  bumpReact | backoffSpeed | backoffDist | undockDist | cliffHyst | senseTimeout | odomCheckK |
  maxTicks | responseTimeout | missLimit | waitLimit | restPeriod | faultGuard | approachLimit |
  beamLost | creepSpeed | seekRate | contactSettle | telePeriod | forwardDecim | autoSave
  deriving DecidableEq, Repr

/-- One row of the table of R182. -/
structure ParamRow where
  param : Param
  lo : Int
  hi : Int
  dflt : Int
  geometry : Bool
  deriving DecidableEq, Repr

/-- The table of R182, in the order of the identifiers: row `i` has identifier `i + 1`. -/
def paramTable : List ParamRow :=
  [ ⟨.track, 100000, 400000, 230000, true⟩
  , ⟨.tickL, 20, 2000, 100, true⟩
  , ⟨.tickR, 20, 2000, 100, true⟩
  , ⟨.halfWidth, 100, 250, 165, true⟩
  , ⟨.fwdFL, 0, 250, 150, true⟩
  , ⟨.latFL, -250, 250, 70, true⟩
  , ⟨.fwdFR, 0, 250, 150, true⟩
  , ⟨.latFR, -250, 250, -70, true⟩
  , ⟨.fwdSL, 0, 250, 110, true⟩
  , ⟨.latSL, -250, 250, 140, true⟩
  , ⟨.fwdSR, 0, 250, 110, true⟩
  , ⟨.latSR, -250, 250, -140, true⟩
  , ⟨.dockX, -12800000, 12799999, 0, true⟩
  , ⟨.dockY, -12800000, 12799999, 0, true⟩
  , ⟨.dockH, 0, 65535, 0, true⟩
  , ⟨.accel, 100, 2000, 500, false⟩
  , ⟨.decel, 200, 2000, 800, false⟩
  , ⟨.margin, 20, 200, 60, false⟩
  , ⟨.capHorizon, 0, 1280, 200, false⟩
  , ⟨.wheelMax, 100, 700, 600, false⟩
  , ⟨.reverseCap, 50, 400, 200, false⟩
  , ⟨.degradedCap, 50, 600, 250, false⟩
  , ⟨.lostCap, 50, 400, 150, false⟩
  , ⟨.limpSpeed, 30, 300, 100, false⟩
  , ⟨.limpGrace, 0, 10000, 2000, false⟩
  , ⟨.cadenceWindow, 50, 1000, 300, false⟩
  , ⟨.cadencePolicy, 0, 1, 0, false⟩
  , ⟨.holdLimit, 200, 10000, 2000, false⟩
  , ⟨.bumpReact, 0, 1, 1, false⟩
  , ⟨.backoffSpeed, 50, 300, 120, false⟩
  , ⟨.backoffDist, 10, 200, 50, false⟩
  , ⟨.undockDist, 50, 500, 200, false⟩
  , ⟨.cliffHyst, 0, 255, 40, false⟩
  , ⟨.senseTimeout, 10, 100, 30, false⟩
  , ⟨.odomCheckK, 3, 50, 10, false⟩
  , ⟨.maxTicks, 10, 2000, 400, false⟩
  , ⟨.responseTimeout, 1, 9, 4, false⟩
  , ⟨.missLimit, 1, 10, 3, false⟩
  , ⟨.waitLimit, 10, 500, 100, false⟩
  , ⟨.restPeriod, 20, 500, 100, false⟩
  , ⟨.faultGuard, 1, 60, 10, false⟩
  , ⟨.approachLimit, 10, 300, 90, false⟩
  , ⟨.beamLost, 500, 10000, 3000, false⟩
  , ⟨.creepSpeed, 20, 150, 60, false⟩
  , ⟨.seekRate, 100, 1500, 400, false⟩
  , ⟨.contactSettle, 50, 2000, 300, false⟩
  , ⟨.telePeriod, 0, 255, 10, false⟩
  , ⟨.forwardDecim, 0, 50, 4, false⟩
  , ⟨.autoSave, 0, 1, 1, false⟩ ]

/-- A parameter's place among the 49, from 0. -/
def Param.index (p : Param) : Fin 49 :=
  match p with
  | .track => 0
  | .tickL => 1
  | .tickR => 2
  | .halfWidth => 3
  | .fwdFL => 4
  | .latFL => 5
  | .fwdFR => 6
  | .latFR => 7
  | .fwdSL => 8
  | .latSL => 9
  | .fwdSR => 10
  | .latSR => 11
  | .dockX => 12
  | .dockY => 13
  | .dockH => 14
  | .accel => 15
  | .decel => 16
  | .margin => 17
  | .capHorizon => 18
  | .wheelMax => 19
  | .reverseCap => 20
  | .degradedCap => 21
  | .lostCap => 22
  | .limpSpeed => 23
  | .limpGrace => 24
  | .cadenceWindow => 25
  | .cadencePolicy => 26
  | .holdLimit => 27
  | .bumpReact => 28
  | .backoffSpeed => 29
  | .backoffDist => 30
  | .undockDist => 31
  | .cliffHyst => 32
  | .senseTimeout => 33
  | .odomCheckK => 34
  | .maxTicks => 35
  | .responseTimeout => 36
  | .missLimit => 37
  | .waitLimit => 38
  | .restPeriod => 39
  | .faultGuard => 40
  | .approachLimit => 41
  | .beamLost => 42
  | .creepSpeed => 43
  | .seekRate => 44
  | .contactSettle => 45
  | .telePeriod => 46
  | .forwardDecim => 47
  | .autoSave => 48

/-- A parameter's row of the table of R182. -/
def Param.row (p : Param) : ParamRow := paramTable.getD p.index ⟨p, 0, 0, 0, false⟩

/-- The parameter an identifier names, if it names one. -/
def Param.ofId (id : Byte) : Option Param :=
  if id = 0 then none else (paramTable[id.toNat - 1]?).map (·.param)

/-- The values of the 49 parameters. -/
abbrev Params := Vector Int 49

/-- Every parameter at its default. -/
def Params.initial : Params := ⟨(paramTable.map (·.dflt)).toArray, by decide⟩

end Sys2Proof.Machine
end

