-- ==== Sys2Proof/Machine/Initial.lean ====
section
/-! DEFINITION. What each block holds after a power-on or pin reset, during start-up. -/

namespace Sys2Proof.Machine

/-! ## Reset values, block by block -/

/-- The link ports during start-up (R178, R181). What a receiver holds until R178 makes it hunt at the end of
start-up, and what the lines and the D-link transmitter hold, the spec does not give: hunting, and nothing
(DESIGN CHOICE, log entries 23 and 19). -/
def LinkPorts.initial (rate : NRate) : LinkPorts :=
  { rate := rate, rxN := .hunting, rxD := .hunting, rxS := .hunting,
    out := [], dTx := [], nWire := [], dWire := [] }

/-- The default class records (R8). -/
def defaultClasses : Vector ClassRecord 16 :=
  let open_ : ClassRecord := ⟨false, 700, .high, true, 300⟩
  let blocking : ClassRecord := ⟨true, 700, .high, true, 300⟩
  #v[ open_,
      ⟨false, 300, .high, true, 300⟩,
      ⟨false, 200, .off, false, 300⟩,
      ⟨false, 400, .high, true, 120⟩,
      ⟨false, 150, .high, true, 300⟩,
      blocking, blocking, blocking, blocking,
      open_, open_, open_, open_, open_, open_, open_ ]

/-- The Tile Map after a start-up load of the tiles given (R8, R23). -/
def TileMap.initial (tiles : Memory) : TileMap :=
  { tiles := tiles, dirty := Vector.replicate 256 false, classes := defaultClasses }

/-- R41. -/
def PoseUnit.initial : PoseUnit :=
  { x := 0, y := 0, h := 0, quality := .lost, base := none, stallL := 0, stallR := 0 }

/-- R68. -/
def SegmentQueue.initial : SegmentQueue := { queue := [], lastBeat := none, cadence := none }

/-- R68. -/
def TravelController.initial : TravelController :=
  { state := .idle, yield := false, grace := none, backoff := none, outcome := none }

/-- R92. -/
def EnvelopeRecord.initial : EnvelopeRecord :=
  { p := 0, lastD := 1280, lastBound := 0, left := 0, right := 0 }

/-- R113, during start-up. -/
def HazardUnit.initial : HazardUnit :=
  { fl := ⟨.unknown, .armed⟩, fr := ⟨.unknown, .armed⟩, sl := ⟨.unknown, .armed⟩,
    sr := ⟨.unknown, .armed⟩, dropL := false, dropR := false, bumpL := false, bumpR := false,
    lastSeq := none, loss := none, silent := false }

/-- R129, during start-up. DESIGN CHOICE for `exTag`, `sentL` and `sentR` (log entry 23). -/
def DriveExchange.initial : DriveExchange :=
  { nextTag := 0, exTag := 0, phase := .clear, response := none, period := none, misses := 0,
    waits := 0, guard := none, fault := none, faultCode := 0, sentL := 0, sentR := 0, stopN := false }

/-- The default Beacon Table (R138), the right code running within each left code. -/
def defaultBeacon : Vector BeaconEntry 25 :=
  #v[ ⟨0, 0⟩,   ⟨0, -500⟩,  ⟨0, -500⟩,   ⟨0, -500⟩,   ⟨0, -500⟩,
      ⟨0, 500⟩, ⟨80, 600⟩,  ⟨60, 0⟩,     ⟨100, 300⟩,  ⟨60, 300⟩,
      ⟨0, 500⟩, ⟨60, 0⟩,    ⟨80, -600⟩,  ⟨100, -300⟩, ⟨60, -300⟩,
      ⟨0, 500⟩, ⟨100, 300⟩, ⟨100, -300⟩, ⟨150, 0⟩,    ⟨60, 0⟩,
      ⟨0, 500⟩, ⟨60, 300⟩,  ⟨60, -300⟩,  ⟨60, 0⟩,     ⟨0, 0⟩ ]

/-- R148. -/
def DockUnit.initial : DockUnit :=
  { sub := .none_, codeL := .none_, codeR := .none_, contact := false, approach := none,
    beamLost := none, settle := none, beacon := defaultBeacon }

/-- A slot that has never been saved since manufacture (R150). -/
def Slot.blank : Slot := { begun := .absent, complete := .absent, data := [] }

/-- The store after a start-up load that found the slot states given (R159). -/
def MapStore.initial (slots : Vector SlotState 256) (medium : Medium) : MapStore :=
  { slots := slots, list := [], current := none, error := false, failedPage := none,
    failedStep := none, medium := medium }

/-- R175, during start-up. -/
def ReportUnit.initial (cause : ResetCause) : ReportUnit :=
  { enable := true, masks := Vector.replicate 8 false, held := Vector.replicate 8 none,
    latches := 0, counters := Vector.replicate 12 0, tele := none, fwd := 0, timebase := 0,
    cause := cause }

end Sys2Proof.Machine
end

