-- ==== Sys2Proof/Machine/State.lean ====
section
/-! DEFINITION. The state of the part, block by block, as plain data, and the state after reset. -/

namespace Sys2Proof.Machine

/-! ## The whole state -/

/-- The state of the part. `pending` is the model's own: the commands that wait, first in, first out. -/
structure State where
  phase : Phase
  port : LinkPorts
  map : TileMap
  pose : PoseUnit
  seg : SegmentQueue
  trv : TravelController
  env : EnvelopeRecord
  haz : HazardUnit
  drv : DriveExchange
  dock : DockUnit
  store : MapStore
  rep : ReportUnit
  params : Params
  pending : List Instr
  deriving DecidableEq, Repr

/-- No command of this block stops it: every event of the spec ends in a next state. -/
inductive Fault where
  deriving DecidableEq, Repr

/-- The refusals. -/
inductive Refusal where
  /-- Raised by a refused arm of `exec` for a command without a meaning. Safe: nothing follows from
  it. No arm of this model raises it. -/
  | notModelled (mnemonic : String)
  deriving DecidableEq, Repr

/-- The part at the start of start-up after a power-on or pin reset whose start-up load has written
the tiles and found the slot states given. -/
def State.starting (cause : ResetCause) (rate : NRate) (tiles : Memory)
    (slots : Vector SlotState 256) (medium : Medium) (pending : List Instr) : State :=
  { phase := .startUp, port := .initial rate, map := .initial tiles, pose := .initial,
    seg := .initial, trv := .initial, env := .initial, haz := .initial, drv := .initial,
    dock := .initial, store := .initial slots medium, rep := .initial cause,
    params := Params.initial, pending := pending }

/-- The part right after a power-on reset, in start-up, with a medium never written since manufacture
and both NRATE pins at 0 (log entry 5). -/
def State.reset : State :=
  State.starting .power .mbit1 [] (Vector.replicate 256 .blank) [] []

end Sys2Proof.Machine
end

