-- ==== Sys2Proof/Machine/Clock.lean ====
section
/-! DEFINITION. One millisecond of the part's clock: what happens when no command waits (log entry 2). -/

namespace Sys2Proof.Machine

/-- A timer after one more millisecond: a running one counts down to 0 and waits there for its expiry. -/
def Timer.tick (t : Timer) : Timer := t.map (· - 1)

/-- The period timer after one more millisecond: it counts up to its interval and waits there for its
period event (R115). -/
def Interval.tick (i : Interval) : Interval := { i with passed := min (i.passed + 1) (max i.passed i.length) }

/-- The timebase counts and wraps at 2^32 (R173); every running timer counts; the D-link transmitter
sends what it was handed, which takes it less than a millisecond (R179; log entry 19). Without supply
and during start-up nothing counts (R173, R175). -/
def State.tick (s : State) : State :=
  if s.phase = .running then
    { s with
      port := { s.port with
        dTx := []
        dWire := if s.port.dTx = [] then s.port.dWire else s.port.dTx.flatMap Frame.wire }
      seg := { s.seg with cadence := Timer.tick s.seg.cadence }
      trv := { s.trv with grace := Timer.tick s.trv.grace }
      haz := { s.haz with loss := Timer.tick s.haz.loss }
      drv := { s.drv with
        response := Timer.tick s.drv.response
        period := s.drv.period.map Interval.tick
        guard := Timer.tick s.drv.guard }
      dock := { s.dock with
        approach := Timer.tick s.dock.approach
        beamLost := Timer.tick s.dock.beamLost
        settle := Timer.tick s.dock.settle }
      rep := { s.rep with
        tele := Timer.tick s.rep.tele
        timebase := (s.rep.timebase + 1) % 2 ^ 32 } }
  else s

end Sys2Proof.Machine
end

