-- ==== Sys2Proof/Machine/Operands.lean ====
section
/-! DEFINITION. How each frame's fields are read from its payload (R93, R187, R190), and the numbers that stand for named values in frames. -/

namespace Sys2Proof.Machine

/-! ## Bytes of a payload -/

/-- Byte `i` of a payload. -/
def byteAt (p : List Byte) (i : Nat) : Byte := p.getD i 0

/-- The unsigned number in bytes `i` and `i + 1`. -/
def unsignedAt (p : List Byte) (i : Nat) : Nat := unsigned16 (byteAt p i) (byteAt p (i + 1))

/-- The signed number in bytes `i` and `i + 1`. -/
def signedAt (p : List Byte) (i : Nat) : Int := signed16 (byteAt p i) (byteAt p (i + 1))

/-- The signed number in bytes `i` to `i + 3`. -/
def signed32At (p : List Byte) (i : Nat) : Int :=
  signed32 (byteAt p i) (byteAt p (i + 1)) (byteAt p (i + 2)) (byteAt p (i + 3))

/-! ## Numbers of named values -/

/-- Main brush settings are carried as 0 OFF, 1 LOW, 2 NORMAL, 3 HIGH (R9). -/
def Brush.number : Brush → Nat
  | .off => 0 | .low => 1 | .normal => 2 | .high => 3

/-- The setting a number stands for; a value above 3 becomes HIGH (R18, R49). -/
def Brush.ofNumber : Nat → Brush
  | 0 => .off | 1 => .low | 2 => .normal | _ => .high

/-- The lesser setting in the order OFF < LOW < NORMAL < HIGH (R86). -/
def Brush.least (a b : Brush) : Brush := if a.number ≤ b.number then a else b

def Quality.number : Quality → Nat
  | .lost => 0 | .degraded => 1 | .good => 2

def ExtentKind.number : ExtentKind → Nat
  | .distance => 0 | .angle => 1 | .time => 2

def ExtentKind.ofNumber? : Nat → Option ExtentKind
  | 0 => some .distance | 1 => some .angle | 2 => some .time | _ => none

def Travel.number : Travel → Nat
  | .idle => 0 | .cruise => 1 | .limp => 2 | .backoff => 3 | .halted => 4 | .approach => 5
  | .docked => 6 | .fault => 7 | .locked => 8

def Substate.number : Substate → Nat
  | .none_ => 0 | .seek => 1 | .align => 2 | .creep => 3 | .settle => 4

def Code.number : Code → Nat
  | .none_ => 0 | .left => 1 | .right => 2 | .center => 3 | .near => 4

/-- The code a number stands for; any value above 4 is NONE (R93). -/
def Code.ofNumber : Nat → Code
  | 1 => .left | 2 => .right | 3 => .center | 4 => .near | _ => .none_

def CliffLevel.number : CliffLevel → Nat
  | .unknown => 0 | .safe => 1 | .unsafe_ => 2

def Sensor.number : Sensor → Nat
  | .fl => 0 | .fr => 1 | .sl => 2 | .sr => 3

/-- 0 is NONE (R114). -/
def FaultKind.number : FaultKind → Nat
  | .driveLost => 1 | .driveFault => 2 | .driveStuck => 3

def SlotState.number : SlotState → Nat
  | .blank => 0 | .valid => 1 | .torn => 2

def failStepNumber : FailStep → Nat
  | .erase => 0 | .program => 1 | .mark => 2

def ResetCause.number : ResetCause → Nat
  | .power => 0 | .pin => 1 | .soft => 2

def BackoffReason.number : BackoffReason → Nat
  | .bump => 0 | .undock => 1

/-- 0 is NONE (R188). -/
def BackoffOutcome.number : BackoffOutcome → Nat
  | .completed => 1 | .blocked => 2

/-! ## Requests (R187) -/

/-- A MOVE's fields as carried. -/
structure MoveFields where
  beat : Nat
  placement : Nat
  tag : Nat
  v : Int
  w : Int
  kind : Nat
  extent : Nat
  brush : Nat
  side : Nat
  deriving DecidableEq, Repr

def MoveFields.read (p : List Byte) : MoveFields :=
  { beat := (byteAt p 1).toNat, placement := (byteAt p 2).toNat, tag := (byteAt p 3).toNat,
    v := signedAt p 4, w := signedAt p 6, kind := (byteAt p 8).toNat, extent := unsignedAt p 9,
    brush := (byteAt p 11).toNat, side := (byteAt p 12).toNat }

/-- A POSE request's fields. -/
structure PoseFields where
  x : Int
  y : Int
  h : Nat
  quality : Nat
  deriving DecidableEq, Repr

def PoseFields.read (p : List Byte) : PoseFields :=
  { x := signed32At p 1, y := signed32At p 5, h := unsignedAt p 9, quality := (byteAt p 11).toNat }

/-- A TILE_FILL's fields. -/
structure FillFields where
  tx0 : Nat
  ty0 : Nat
  tx1 : Nat
  ty1 : Nat
  cls : Nat
  override : Nat
  deriving DecidableEq, Repr

def FillFields.read (p : List Byte) : FillFields :=
  { tx0 := (byteAt p 1).toNat, ty0 := (byteAt p 2).toNat, tx1 := (byteAt p 3).toNat,
    ty1 := (byteAt p 4).toNat, cls := (byteAt p 5).toNat, override := (byteAt p 6).toNat }

/-- A TILE_RUN's fields. -/
structure RunFields where
  tx : Nat
  ty : Nat
  override : Nat
  count : Nat
  values : List Nat
  deriving DecidableEq, Repr

def RunFields.read (p : List Byte) : RunFields :=
  { tx := (byteAt p 1).toNat, ty := (byteAt p 2).toNat, override := (byteAt p 3).toNat,
    count := (byteAt p 4).toNat, values := (p.drop 5).map BitVec.toNat }

/-- A CLASS request's fields. -/
structure ClassFields where
  cls : Nat
  blocks : Nat
  cap : Nat
  brush : Nat
  side : Nat
  cliff : Nat
  deriving DecidableEq, Repr

def ClassFields.read (p : List Byte) : ClassFields :=
  { cls := (byteAt p 1).toNat, blocks := (byteAt p 2).toNat, cap := unsignedAt p 3,
    brush := (byteAt p 5).toNat, side := (byteAt p 6).toNat, cliff := unsignedAt p 7 }

/-- A BEACON request's fields. -/
structure BeaconFields where
  left : Nat
  right : Nat
  v : Int
  w : Int
  deriving DecidableEq, Repr

def BeaconFields.read (p : List Byte) : BeaconFields :=
  { left := (byteAt p 1).toNat, right := (byteAt p 2).toNat, v := signedAt p 3, w := signedAt p 5 }

/-- A rectangle of tiles, as QUERY TILES carries it after its subject. -/
structure Rect where
  tx0 : Nat
  ty0 : Nat
  tx1 : Nat
  ty1 : Nat
  deriving DecidableEq, Repr

def Rect.read (args : List Byte) : Rect :=
  { tx0 := (byteAt args 0).toNat, ty0 := (byteAt args 1).toNat, tx1 := (byteAt args 2).toNat,
    ty1 := (byteAt args 3).toNat }

/-! ## ODOM and SENSE (R93, R117, R190) -/

/-- The status of an ODOM (R117). -/
inductive OdomStatus where
  | ready | wait | fault
  deriving DecidableEq, Repr

/-- Any value above 2 is read as FAULT (R117). -/
def OdomStatus.ofNumber : Nat → OdomStatus
  | 0 => .ready | 1 => .wait | _ => .fault

/-- An ODOM's fields as read. -/
structure OdomFields where
  tag : Nat
  left : Nat
  right : Nat
  status : OdomStatus
  code : Nat
  deriving DecidableEq, Repr

def OdomFields.read (p : List Byte) : OdomFields :=
  { tag := (byteAt p 0).toNat, left := unsignedAt p 1, right := unsignedAt p 3,
    status := .ofNumber (byteAt p 5).toNat, code := (byteAt p 6).toNat }

/-- A SENSE frame's fields as read (R93). -/
structure SenseFields where
  seq : Nat
  fl : Nat
  fr : Nat
  sl : Nat
  sr : Nat
  bumpL : Bool
  bumpR : Bool
  dropL : Bool
  dropR : Bool
  codeL : Code
  codeR : Code
  contact : Bool
  deriving DecidableEq, Repr

/-- A switch level: 0 is 0, any other value is 1 (R93). -/
def switchAt (p : List Byte) (i : Nat) : Bool := byteAt p i != 0

def SenseFields.read (p : List Byte) : SenseFields :=
  { seq := (byteAt p 0).toNat
    fl := min (unsignedAt p 1) 1023, fr := min (unsignedAt p 3) 1023
    sl := min (unsignedAt p 5) 1023, sr := min (unsignedAt p 7) 1023
    bumpL := switchAt p 9, bumpR := switchAt p 10
    dropL := switchAt p 11, dropR := switchAt p 12
    codeL := .ofNumber (byteAt p 13).toNat, codeR := .ofNumber (byteAt p 14).toNat
    contact := switchAt p 15 }

/-- The reading of a cliff sensor. -/
def SenseFields.reading (f : SenseFields) : Sensor → Nat
  | .fl => f.fl | .fr => f.fr | .sl => f.sl | .sr => f.sr

/-- The 16 SENSE bytes with values as read (R172, R189). -/
def SenseFields.bytes (f : SenseFields) : List Byte :=
  carry8 f.seq :: (carry16 f.fl ++ carry16 f.fr ++ carry16 f.sl ++ carry16 f.sr ++
    [carryFlag f.bumpL, carryFlag f.bumpR, carryFlag f.dropL, carryFlag f.dropR,
     carry8 f.codeL.number, carry8 f.codeR.number, carryFlag f.contact])

end Sys2Proof.Machine
end

