-- ==== Sys2Proof/Machine/Flags.lean ====
section
/-! DEFINITION. Latches, counters, events and the NOTE frames they become, and the output queue's room (chapter 9, R181). -/

namespace Sys2Proof.Machine

/-! ## The output queue (R181) -/

/-- The number of frames in the output queue. -/
def State.queued (s : State) : Nat := s.port.out.length

/-- A frame joins the tail of the output queue. -/
def State.pushUp (f : Frame) (s : State) : State :=
  { s with port := { s.port with out := s.port.out ++ [f] } }

/-- A frame is handed to the D-link transmitter (R179). -/
def State.pushDown (f : Frame) (s : State) : State :=
  { s with port := { s.port with dTx := s.port.dTx ++ [f] } }

/-! ## Latches (R168) -/

inductive Latch where
  | cliffFL | cliffFR | cliffSL | cliffSR | bumpL | bumpR | wheelDrop | sensorLost | odomLoss
  | driveTimeout | fault | torn
  deriving DecidableEq, Repr

/-- A latch's position in the latch set. -/
def Latch.position : Latch → Nat
  | .cliffFL => 0 | .cliffFR => 1 | .cliffSL => 2 | .cliffSR => 3 | .bumpL => 4 | .bumpR => 5
  | .wheelDrop => 6 | .sensorLost => 7 | .odomLoss => 8 | .driveTimeout => 9 | .fault => 10
  | .torn => 11

/-- The latch set with one latch set. -/
def Latch.set (l : Latch) (latches : BitVec 12) : BitVec 12 :=
  latches ||| BitVec.twoPow 12 l.position

def State.setLatch (l : Latch) (s : State) : State :=
  { s with rep := { s.rep with latches := l.set s.rep.latches } }

/-- The latch of a cliff sensor (R100). -/
def Sensor.latch : Sensor → Latch
  | .fl => .cliffFL | .fr => .cliffFR | .sl => .cliffSL | .sr => .cliffSR

/-! ## Counters (R174) -/

inductive Counter where
  | nCheck | dCheck | sCheck | nKind | replyLost | teleSkip | forwardSkip | senseGap
  | driveTimeout | driveLate | driveStray | observedMarks
  deriving DecidableEq, Repr

/-- A counter's position. -/
def Counter.position : Counter → Fin 12
  | .nCheck => 0 | .dCheck => 1 | .sCheck => 2 | .nKind => 3 | .replyLost => 4 | .teleSkip => 5
  | .forwardSkip => 6 | .senseGap => 7 | .driveTimeout => 8 | .driveLate => 9 | .driveStray => 10
  | .observedMarks => 11

/-- The check counter of a link (R178). -/
def checkCounter : Link → Counter
  | .n => .nCheck | .d => .dCheck | .s => .sCheck

/-- A counter rises by `k`, held at 65,535 (R174). -/
def State.count (c : Counter) (k : Nat) (s : State) : State :=
  { s with rep := { s.rep with
      counters := s.rep.counters.set c.position (saturate 65535 s.rep.counters[c.position] k) } }

/-! ## Events (R164) -/

/-- The reasons of SEGMENT ABORTED (R45, R164). -/
inductive AbortReason where
  | replaced | bump | cliff | wheelDrop | sensorLost | cadence | holdLimit | yield | fault
  deriving DecidableEq, Repr

def AbortReason.number : AbortReason → Nat
  | .replaced => 0 | .bump => 1 | .cliff => 2 | .wheelDrop => 3 | .sensorLost => 4 | .cadence => 5
  | .holdLimit => 6 | .yield => 7 | .fault => 8

/-- The reasons of DOCK FAILED (R144). -/
inductive DockFailure where
  | cliff | wheelDrop | sensorLost | bump | timeout | cancelled | fault | halted
  deriving DecidableEq, Repr

def DockFailure.number : DockFailure → Nat
  | .cliff => 0 | .wheelDrop => 1 | .sensorLost => 2 | .bump => 3 | .timeout => 4 | .cancelled => 5
  | .fault => 6 | .halted => 7

/-- The reasons of POSE DEGRADED (R164). -/
inductive PoseDoubt where
  | odomLoss | odomJump | mapEdge | reset
  deriving DecidableEq, Repr

def PoseDoubt.number : PoseDoubt → Nat
  | .odomLoss => 0 | .odomJump => 1 | .mapEdge => 2 | .reset => 3

/-- The events of R164, each with what it names. Sides are 0 left, 1 right, 2 both. -/
inductive Event where
  | cliff (sensor : Sensor)
  | wheelDrop (side : Nat)
  | sensorLost
  | bump (side : Nat)
  | segmentDone (tag : Nat)
  | segmentAborted (tag : Nat) (reason : AbortReason)
  | cadenceLost (policy : Nat)
  | cadenceRestored
  | dockGranted
  | beamFound
  | beamLost (left : Substate)
  | dockCreep
  | docked
  | dockFailed (reason : DockFailure)
  | contactLost
  | undocked
  | poseDegraded (reason : PoseDoubt)
  | poseLost
  | poseRestored
  | pageSaved (page : Page)
  | listDone
  | storeError (page : Page) (step : FailStep)
  | tornFound (slots : Nat)
  | start (cause : ResetCause)
  | driveFaulted (kind : FaultKind) (code : Nat)
  | locked (kind : FaultKind)
  deriving DecidableEq, Repr

def Event.cls : Event → ReportClass
  | .cliff _ | .wheelDrop _ | .sensorLost => .hazard
  | .bump _ => .contact
  | .segmentDone _ | .segmentAborted _ _ => .segment
  | .cadenceLost _ | .cadenceRestored => .cadence
  | .dockGranted | .beamFound | .beamLost _ | .dockCreep | .docked | .dockFailed _ | .contactLost
  | .undocked => .dock
  | .poseDegraded _ | .poseLost | .poseRestored => .pose
  | .pageSaved _ | .listDone | .storeError _ _ | .tornFound _ => .map
  | .start _ | .driveFaulted _ _ | .locked _ => .system

def Event.code : Event → Nat
  | .cliff _ => 0 | .wheelDrop _ => 1 | .sensorLost => 2
  | .bump _ => 0
  | .segmentDone _ => 0 | .segmentAborted _ _ => 1
  | .cadenceLost _ => 0 | .cadenceRestored => 1
  | .dockGranted => 0 | .beamFound => 1 | .beamLost _ => 2 | .dockCreep => 3 | .docked => 4
  | .dockFailed _ => 5 | .contactLost => 6 | .undocked => 7
  | .poseDegraded _ => 0 | .poseLost => 1 | .poseRestored => 2
  | .pageSaved _ => 0 | .listDone => 1 | .storeError _ _ => 2 | .tornFound _ => 3
  | .start _ => 0
  | .driveFaulted k _ => k.number
  | .locked _ => 4

def Event.detail : Event → Nat
  | .cliff sensor => sensor.number
  | .wheelDrop side | .bump side => side
  | .segmentAborted _ reason => reason.number
  | .cadenceLost policy => policy
  | .beamLost left => left.number
  | .dockFailed reason => reason.number
  | .poseDegraded reason => reason.number
  | .storeError _ step => failStepNumber step
  | .tornFound slots => min slots 255
  | .start cause => cause.number
  | .driveFaulted _ code => code
  | .locked kind => kind.number
  | _ => 0

/-- The segment tag or the page index an event carries (R164). -/
def Event.extra : Event → Option Nat
  | .segmentDone tag | .segmentAborted tag _ => some tag
  | .pageSaved page | .storeError page _ => some page.val
  | _ => none

/-! ## NOTE frames, pending records and their release -/

/-- A class's number (R163). -/
def ReportClass.number : ReportClass → Fin 8
  | .hazard => 0 | .contact => 1 | .segment => 2 | .cadence => 3 | .dock => 4 | .pose => 5 | .map => 6
  | .system => 7

/-- The classes in order 0 to 7. -/
def ReportClass.all : List ReportClass :=
  [.hazard, .contact, .segment, .cadence, .dock, .pose, .map, .system]

/-- x in millimetres (R25). -/
def PoseUnit.xmm (p : PoseUnit) : Int := p.x / 1000

/-- y in millimetres (R25). -/
def PoseUnit.ymm (p : PoseUnit) : Int := p.y / 1000

/-- The NOTE record of an event raised now (R164). -/
def State.noteOf (e : Event) (s : State) : Note :=
  { cls := e.cls, code := e.code, time := s.rep.timebase, xmm := s.pose.xmm, ymm := s.pose.ymm,
    h := s.pose.h, detail := e.detail, extra := e.extra }

/-- The NOTE frame of a record and its coalesced count (R189). -/
def noteFrame (n : Note) (count : Nat) : Frame :=
  { kind := kindNote
    payload := [carry8 n.cls.number, carry8 n.code, carry8 count] ++ carry32 n.time ++
      carry16 n.xmm ++ carry16 n.ymm ++ carry16 n.h ++ [carry8 n.detail] ++
      (match n.extra with | none => [] | some e => [carry8 e]) }

/-- A class's pending record after one more event (R165). -/
def holdNote (n : Note) (old : Option Held) : Held :=
  match old with
  | none => ⟨n, 1⟩
  | some r => ⟨n, saturate 255 r.count 1⟩

/-- An event is raised (R165): nothing while reporting is disabled; a NOTE frame where its class is
unmasked and not pending and there is room; the class's pending record otherwise. -/
def State.raise (e : Event) (s : State) : State :=
  let c := e.cls.number
  let n := s.noteOf e
  if s.rep.enable = false then s
  else if s.rep.masks[c] = false ∧ s.rep.held[c] = none ∧ s.queued < 16 then s.pushUp (noteFrame n 1)
  else { s with rep := { s.rep with held := s.rep.held.set c (some (holdNote n s.rep.held[c])) } }

/-- A class's pending record is released if the class is unmasked and there is room (R166). -/
def State.releaseClass (s : State) (cls : ReportClass) : State :=
  let c := cls.number
  match s.rep.held[c] with
  | none => s
  | some r =>
    if s.rep.masks[c] = false ∧ s.queued < 16 then
      ({ s with rep := { s.rep with held := s.rep.held.set c none } }).pushUp (noteFrame r.note r.count)
    else s

/-- Pending records are released in class order (R166). -/
def State.release (s : State) : State := ReportClass.all.foldl State.releaseClass s

/-- Several events raised in order. -/
def State.raiseAll (es : List Event) (s : State) : State := es.foldl (fun s e => s.raise e) s

/-- The set of pending classes: bit n is class n (R188). -/
def State.pendingClasses (s : State) : Byte :=
  ReportClass.all.foldl
    (fun b c => if s.rep.held[c.number] = none then b else b ||| BitVec.twoPow 8 c.number) 0

/-- The masks: bit n is class n (R187, R188). -/
def State.maskByte (s : State) : Byte :=
  ReportClass.all.foldl
    (fun b c => if s.rep.masks[c.number] then b ||| BitVec.twoPow 8 c.number else b) 0

/-- The latch set in its 16 flags (R168, R188). -/
def State.latchBytes (s : State) : List Byte := bytes16 (s.rep.latches.setWidth 16)

end Sys2Proof.Machine
end

