-- ==== Sys2Proof/Machine/Ops.lean ====
section
/-! DEFINITION. The named operations the commands share: the map's memory, the medium, travel states, the queue, halts and drive faults. -/

namespace Sys2Proof.Machine

/-! ## Sparse tables -/

/-- What a key holds. -/
def tableGet {β : Type} (dflt : β) : List (Nat × β) → Nat → β
  | [], _ => dflt
  | (k, v) :: rest, a => if k = a then v else tableGet dflt rest a

/-- A key takes a value; a key that takes the default is no longer listed. -/
def tablePut {β : Type} [DecidableEq β] (dflt : β) (a : Nat) (b : β) : List (Nat × β) → List (Nat × β)
  | [] => if b = dflt then [] else [(a, b)]
  | (k, v) :: rest =>
    if a < k then (if b = dflt then (k, v) :: rest else (a, b) :: (k, v) :: rest)
    else if a = k then (if b = dflt then rest else (a, b) :: rest)
    else (k, v) :: tablePut dflt a b rest

/-- Keys rise strictly from `lo` on, and no default is listed. -/
def tableWfFrom {β : Type} [DecidableEq β] (dflt : β) : Nat → List (Nat × β) → Bool
  | _, [] => true
  | lo, (k, v) :: rest => decide (lo ≤ k) && decide (v ≠ dflt) && tableWfFrom dflt (k + 1) rest

/-- The byte at an address; an unlisted address reads 0x00 (R5, R159). -/
def Memory.read (m : Memory) (a : Nat) : Byte := tableGet 0 m a

/-- The byte at an address is written. -/
def Memory.write (m : Memory) (a : Nat) (b : Byte) : Memory := tablePut 0 a b m

/-- The canonical form: addresses strictly rising, no 0x00 listed. -/
def Memory.wf (m : Memory) : Bool := tableWfFrom 0 0 m

/-! ## Supply and start-up -/

/-- An event of the part's own blocks or of a line: it happens only with supply and outside start-up
(R178, R180; log entry 18). -/
def State.onRunning (s : State) (event : State → State) : State :=
  if s.phase = .running then event s else s

/-! ## Parameters -/

/-- A parameter's value. -/
def State.param (s : State) (p : Param) : Int := s.params[p.index]

/-- A parameter's value, as a natural number. -/
def State.paramNat (s : State) (p : Param) : Nat := (s.param p).toNat

/-! ## Tiles (R1 to R5) -/

/-- The class of a tile record, bits 0 to 3. -/
def tileClass (b : Byte) : ClassNo := ⟨b.toNat % 16, Nat.mod_lt _ (by decide)⟩

/-- The origin of a tile record is OBSERVED, bit 4. -/
def tileObserved (b : Byte) : Bool := b.getLsbD 4

/-- The observed count of a tile record, bits 5 and 6. -/
def tileCount (b : Byte) : Nat := b.toNat / 32 % 4

/-- A well-formed tile record (R4, R159). -/
def tileRecordOk (b : Byte) : Bool :=
  !b.msb && (if tileObserved b then decide (tileClass b = 6) && decide (1 ≤ tileCount b)
             else decide (tileCount b = 0))

/-- The record of a class with origin LOADED and count 0. -/
def loadedTile (c : ClassNo) : Byte := BitVec.ofNat 8 c.val

/-- The record of class CLIFF with origin OBSERVED and a count. -/
def observedTile (count : Nat) : Byte := BitVec.ofNat 8 (6 + 16 + 32 * (count % 4))

/-- The page of a tile (R2). -/
def tilePage (tx ty : Nat) : Page := ⟨(ty / 16 * 16 + tx / 16) % 256, Nat.mod_lt _ (by decide)⟩

/-- The address of a tile: its page and its position in the page (R2). -/
def tileAddress (tx ty : Nat) : Nat := 256 * (tilePage tx ty).val + (ty % 16 * 16 + tx % 16)

/-- The tile a point lies in, if it lies on the map (R1, R3). -/
def pointTile (x y : Int) : Option (Nat × Nat) :=
  if -12800 ≤ x ∧ x ≤ 12799 ∧ -12800 ≤ y ∧ y ≤ 12799 then
    some (((x + 12800) / 100).toNat, ((y + 12800) / 100).toNat)
  else none

/-- The class a map lookup returns (R3): class 0 off the map. -/
def TileMap.classAt (m : TileMap) (x y : Int) : ClassNo :=
  match pointTile x y with
  | none => 0
  | some (tx, ty) => tileClass (m.tiles.read (tileAddress tx ty))

/-- The Class Table record of a class. -/
def TileMap.record (m : TileMap) (c : ClassNo) : ClassRecord := m.classes[c]

/-- A tile takes a record, and its page becomes dirty (R17). -/
def TileMap.writeTile (m : TileMap) (tx ty : Nat) (b : Byte) : TileMap :=
  { m with tiles := m.tiles.write (tileAddress tx ty) b, dirty := m.dirty.set (tilePage tx ty) true }

/-- The 256 bytes of a page, by position (R2). -/
def pageBytes (tiles : Memory) (p : Page) : Memory :=
  tiles.filterMap (fun (a, b) => if a / 256 = p.val then some (a % 256, b) else none)

/-! ## The medium (R150, R159) -/

/-- A page's slot. -/
def Medium.slot (m : Medium) (p : Page) : Slot := tableGet Slot.blank m p.val

/-- A page's slot is replaced. -/
def Medium.put (m : Medium) (p : Page) (slot : Slot) : Medium := tablePut Slot.blank p.val slot m

/-- How the start-up load classes a slot (R159). -/
def Slot.state (slot : Slot) : SlotState :=
  match slot.begun, slot.complete with
  | .absent, .absent => .blank
  | .written, .written => if slot.data.all (fun e => tileRecordOk e.2) then .valid else .torn
  | _, _ => .torn

/-- The tiles the start-up load writes: the bytes of the VALID slots, 0x00 elsewhere (R159). -/
def Medium.tiles (m : Medium) : Memory :=
  m.flatMap (fun (p, slot) =>
    if slot.state = .valid then slot.data.map (fun (a, b) => (256 * p + a, b)) else [])

/-- The slot state table the start-up load writes (R159). -/
def Medium.states (m : Medium) : Vector SlotState 256 :=
  m.foldl (fun v e => if h : e.1 < 256 then v.set e.1 e.2.state else v) (Vector.replicate 256 .blank)

/-- The save has passed the point after which a cut leaves its slot TORN (R150). -/
def SaveReach.pastPoint (slot : Slot) : SaveReach → Bool
  | .beginNotWriting => false
  | .beginWriting => slot.begun == .absent && slot.complete == .absent
  | .eraseNotErasing => slot.begun == .absent && slot.complete == .absent
  | .erasing | .programming | .marking => true

/-- What a save cut past the point leaves in its slot: a begun mark without a good complete mark, or a
partly written begun mark (R150; log entry 20). -/
def SaveReach.leftover (buffer : Memory) : SaveReach → Slot
  | .beginNotWriting | .beginWriting => ⟨.partly, .absent, []⟩
  | .eraseNotErasing => ⟨.written, .absent, []⟩
  | .erasing => ⟨.written, .partly, []⟩
  | .programming => ⟨.written, .absent, []⟩
  | .marking => ⟨.written, .partly, buffer⟩

/-- A running save ends at once (R150, R162). -/
def MapStore.cut (st : MapStore) (reach : SaveReach) : MapStore :=
  match st.current with
  | none => st
  | some c =>
    { st with
      current := none
      medium := if SaveReach.pastPoint (st.medium.slot c.page) reach
        then st.medium.put c.page (SaveReach.leftover c.buffer reach) else st.medium }

/-! ## The Map Store (R151, R153) -/

/-- A page joins the tail of the save list unless it is listed already (R151). -/
def MapStore.join (st : MapStore) (p : Page) : MapStore :=
  if p ∈ st.list then st else { st with list := st.list ++ [p] }

/-- A save starts where the store is IDLE, the error latch clear and the list non-empty (R153). -/
def State.startSave (s : State) : State :=
  match s.store.error, s.store.current, s.store.list with
  | false, none, p :: rest =>
    { s with
      store := { s.store with list := rest, current := some ⟨p, pageBytes s.map.tiles p⟩ }
      map := { s.map with dirty := s.map.dirty.set p false } }
  | _, _, _ => s

/-- The store state as a number: 0 IDLE, 1 WORKING, 2 ERROR (R149). -/
def MapStore.number (st : MapStore) : Nat :=
  if st.error then 2 else if st.current.isSome then 1 else 0

/-! ## Travel states (R62) -/

/-- The running interval cut to 10 ms, measured from the period event that began it (R115). -/
def Interval.cut (i : Interval) : Interval := { i with length := 10 }

/-- The travel state becomes `t`, and what may run only in other states stops: the cadence timer and a
pending yield outside CRUISE (R57, R62), the grace timer outside LIMP (R59), the back-off outside
BACKOFF (R63), the approach outside APPROACH (R131, R144), the rest interval outside DOCKED (R115). -/
def State.enter (t : Travel) (s : State) : State :=
  { s with
    trv := { s.trv with
      state := t
      yield := s.trv.yield && decide (t = .cruise)
      grace := if t = .limp then s.trv.grace else none
      backoff := if t = .backoff then s.trv.backoff else none }
    seg := { s.seg with cadence := if t = .cruise then s.seg.cadence else none }
    dock := if t = .approach then s.dock else
      { s.dock with sub := .none_, approach := none, beamLost := none, settle := none }
    drv := if s.trv.state = .docked ∧ t ≠ .docked then
      { s.drv with period := s.drv.period.map Interval.cut } else s.drv }

/-- The cadence timer restarts from a full window where its three conditions hold (R57). -/
def State.restartCadence (s : State) : State :=
  if s.trv.state = .cruise ∧ s.seg.queue ≠ [] ∧ s.trv.yield = false then
    { s with seg := { s.seg with cadence := some (s.paramNat .cadenceWindow) } }
  else s

/-- A whole abort (R45). -/
def State.abortWhole (reason : AbortReason) (s : State) : State :=
  ({ s with seg := { s.seg with queue := [] } }).raiseAll
    (s.seg.queue.map (fun (g : Segment) => .segmentAborted g.tag reason))

/-- A queued-only abort (R45). -/
def State.abortQueued (reason : AbortReason) (s : State) : State :=
  ({ s with seg := { s.seg with queue := s.seg.queue.take 1 } }).raiseAll
    ((s.seg.queue.drop 1).map (fun (g : Segment) => .segmentAborted g.tag reason))

/-- DOCK FAILED where an approach runs or a yield is pending before the event (R96, R107, R121, R136). -/
def State.raiseDockFailed (s before : State) (reason : DockFailure) : State :=
  if before.trv.state = .approach ∨ before.trv.yield then s.raise (.dockFailed reason) else s

/-- A BRAKE frame is handed to the D-link transmitter (R126). -/
def State.brake (s : State) : State := s.pushDown ⟨kindBrake, []⟩

/-- The reasons of a halt (R96). -/
inductive HaltReason where
  | cliff | wheelDrop | sensorLost
  deriving DecidableEq, Repr

def HaltReason.abort : HaltReason → AbortReason
  | .cliff => .cliff | .wheelDrop => .wheelDrop | .sensorLost => .sensorLost

def HaltReason.failure : HaltReason → DockFailure
  | .cliff => .cliff | .wheelDrop => .wheelDrop | .sensorLost => .sensorLost

/-- A halt (R96). -/
def State.halt (reason : HaltReason) (s : State) : State :=
  ((s.brake.enter .halted).abortWhole reason.abort).raiseDockFailed s reason.failure

/-- A back-off starts (R63). -/
def State.startBackoff (reason : BackoffReason) (s : State) : State :=
  let distance := match reason with
    | .bump => s.paramNat .backoffDist
    | .undock => s.paramNat .undockDist
  let s := s.enter .backoff
  { s with trv := { s.trv with backoff := some ⟨reason, distance, 0, 0⟩ } }

/-- A back-off ends with an outcome (R64, R65). -/
def State.endBackoff (outcome : BackoffOutcome) (b : Backoff) (s : State) : State :=
  let s := s.enter .idle
  { s with trv := { s.trv with outcome := some (outcome, b.reason) } }

/-- An approach begins (R137). -/
def State.beginApproach (s : State) : State :=
  let s := s.enter .approach
  let settling := s.dock.contact
  ({ s with dock := { s.dock with
      sub := if settling then .settle else .seek
      approach := some (1000 * s.paramNat .approachLimit)
      settle := if settling then some (s.paramNat .contactSettle) else none
      beamLost := none } }).raise .dockGranted

/-! ## Segments (R44, R55) -/

/-- The head record becomes ACTIVE (R44). -/
def activateHead : List Segment → List Segment
  | [] => []
  | g :: rest => { g with state := .active } :: rest

/-- The travel state moves on when the last record has completed (R55). -/
def State.queueEmptied (s : State) : State :=
  match s.trv.state with
  | .cruise => if s.trv.yield then s.beginApproach else s.enter .idle
  | .limp => s.enter .idle
  | _ => s

/-- The ACTIVE record completes (R55). -/
def State.completeActive (s : State) : State :=
  match s.seg.queue with
  | [] => s
  | g :: rest =>
    let s := ({ s with seg := { s.seg with queue := activateHead rest } }).raise (.segmentDone g.tag)
    if rest = [] then s.queueEmptied else s

/-! ## Drive faults (R120 to R124) -/

/-- Entry to FAULT (R121). -/
def State.enterFault (kind : FaultKind) (code : Nat) (s : State) : State :=
  let t := ((s.setLatch .fault).raise (.driveFaulted kind code)).brake
  let t := { t with drv := { t.drv with stopN := false } }
  ((t.enter .fault).abortWhole .fault).raiseDockFailed s .fault

/-- Entry to LOCKED (R124). -/
def State.enterLocked (kind : FaultKind) (s : State) : State :=
  let t := ((s.setLatch .fault).raise (.locked kind)).brake
  let t := { t with drv := { t.drv with
    stopN := false, guard := none, period := none, response := none, phase := .clear } }
  ((t.enter .locked).abortWhole .fault).raiseDockFailed s .fault

/-- A drive fault is raised, outside FAULT and LOCKED (R120). -/
def State.driveFault (kind : FaultKind) (code : Nat) (s : State) : State :=
  if s.trv.state = .fault ∨ s.trv.state = .locked then s
  else
    let t := { s with drv := { s.drv with fault := some kind, faultCode := code } }
    if s.drv.guard.isSome then t.enterLocked kind else t.enterFault kind code

/-! ## Pose (R35 to R37) -/

/-- The pose quality changes. -/
def State.setQuality (q : Quality) (s : State) : State := { s with pose := { s.pose with quality := q } }

/-- A GOOD quality becomes DEGRADED (R28, R30, R34, R35, R42). -/
def Quality.doubted : Quality → Quality
  | .good => .degraded
  | q => q

/-- The dock-pose setting (R37), without its event. -/
def State.setDockPose (s : State) : State :=
  { s with pose := { s.pose with
      x := s.param .dockX, y := s.param .dockY, h := s.paramNat .dockH, quality := .good
      stallL := 0, stallR := 0 } }

/-- The robot docks (R133, R143): DOCKED, the dock-pose setting, DOCK DOCKED, POSE RESTORED. -/
def State.dockNow (s : State) : State :=
  (((s.enter .docked).setDockPose).raise .docked).raise .poseRestored

/-- The three conditions under which software is being told a cadence (R67): 0 STOPPED, 1 RUNNING, 2
LIMP. -/
def State.cadenceState (s : State) : Nat :=
  if s.seg.cadence.isSome then 1
  else if s.trv.state = .limp ∧ s.trv.grace.isSome then 2
  else 0

/-! ## Telemetry (R171) -/

/-- The telemetry timer at a start: TELE_PERIOD × 10 ms, or stopped for 0. -/
def State.teleInterval (s : State) : Timer :=
  if s.paramNat .telePeriod = 0 then none else some (10 * s.paramNat .telePeriod)

/-! ## Power-on and pin reset -/

/-- The N-link rate the pins select (R176). -/
def NRate.ofPins (nrate1 nrate0 : Bool) : NRate :=
  if nrate1 then .mbit3 else if nrate0 then .mbit2 else .mbit1

/-- A power-on or pin reset: a running save ends at once, every block takes its reset values, and the
start-up load reads the slots (R159, R162, R170, R176). -/
def State.hardReset (cause : ResetCause) (rate : NRate) (reach : SaveReach) (s : State) : State :=
  let medium := (s.store.cut reach).medium
  State.starting cause rate medium.tiles medium.states medium s.pending

end Sys2Proof.Machine
end

