-- ==== Sys2Proof/Machine/Envelope.lean ====
section
/-! DEFINITION. The envelope computation, stage by stage (chapter 4). -/

namespace Sys2Proof.Machine

/-! ## The target (R72, R73, R140) -/

/-- A travel speed and a turn rate. -/
structure Target where
  v : Int
  w : Int
  deriving DecidableEq, Repr

/-- The Beacon Table's entry for the latest codes (R138). -/
def DockUnit.entry (d : DockUnit) : BeaconEntry :=
  d.beacon[(⟨(5 * d.codeL.number + d.codeR.number) % 25, Nat.mod_lt _ (by decide)⟩ : Fin 25)]

/-- The target of an approach; `none` is a forced stop (R140). -/
def State.approachTarget (s : State) : Option Target :=
  let lost := s.dock.codeL = .none_ ∧ s.dock.codeR = .none_
  match s.dock.sub with
  | .seek => some ⟨0, s.param .seekRate⟩
  | .align => if lost then some ⟨0, 0⟩ else some ⟨s.dock.entry.v, s.dock.entry.w⟩
  | .creep =>
    if lost then some ⟨0, 0⟩
    else if s.dock.codeL = .near ∧ s.dock.codeR = .near then some ⟨s.param .creepSpeed, 0⟩
    else some ⟨s.param .creepSpeed, s.dock.entry.w⟩
  | .settle | .none_ => none

/-- The target of a computation; `none` is a forced stop (R72, R73). -/
def State.target (s : State) : Option Target :=
  match s.trv.state with
  | .idle => some ⟨0, 0⟩
  | .cruise | .limp =>
    match s.seg.queue with
    | g :: _ => some ⟨g.v, g.w⟩
    | [] => some ⟨0, 0⟩
  | .backoff => some ⟨-s.param .backoffSpeed, 0⟩
  | .approach => s.approachTarget
  | .halted | .docked | .fault | .locked => none

/-! ## The ramp and the direction (R74, R75) -/

/-- A step size of the ramp: floor(rate × 10 / 1,000), or 1 if that is 0. -/
def rampStep (rate : Int) : Int := max 1 (rate * 10 / 1000)

/-- `p` moved toward `goal` by `step`, stopping there. -/
def moveToward (p goal step : Int) : Int := if p < goal then min (p + step) goal else max (p - step) goal

/-- The intended speed u (R74). -/
def ramp (rise fall p goal : Int) : Int :=
  if p = goal then p
  else if p ≠ 0 ∧ (goal = 0 ∨ p.sign ≠ goal.sign) then moveToward p 0 fall
  else if p.natAbs < goal.natAbs then moveToward p goal rise
  else moveToward p goal fall

/-- The probe heading for the direction of `u` (R75). -/
def probeHeading (h : Nat) (u : Int) : Nat := if u < 0 then (h + 32768) % 65536 else h

/-! ## The probe (R76 to R79) -/

/-- The three rays' origins: the pose in mm, offset to each flank (R76). -/
structure Rays where
  x : Int
  y : Int
  ax : Int
  ay : Int
  s : Int
  c : Int
  deriving DecidableEq, Repr

def State.rays (s : State) (hd : Nat) : Rays :=
  let i := headingIndex hd
  let hw := s.param .halfWidth
  { x := s.pose.xmm, y := s.pose.ymm, ax := -hw * sine i / 16384, ay := hw * cosine i / 16384,
    s := sine i, c := cosine i }

/-- Sample `k` of the three rays: centre, left, right (R77). -/
def Rays.samples (r : Rays) (k : Nat) : List (Int × Int) :=
  let dx := 10 * (k : Int) * r.c / 16384
  let dy := 10 * (k : Int) * r.s / 16384
  [(r.x + dx, r.y + dy), (r.x + r.ax + dx, r.y + r.ay + dy), (r.x - r.ax + dx, r.y - r.ay + dy)]

/-- A class blocks the probe: its record blocks, but for DOCK in APPROACH (R78). -/
def State.classBlocks (s : State) (c : ClassNo) : Bool :=
  (s.map.record c).blocks && !(decide (s.trv.state = .approach) && decide (c = 8))

/-- Some sample of index `k` falls in a blocking class (R78). -/
def State.blockedAt (s : State) (r : Rays) (k : Nat) : Bool :=
  (r.samples k).any (fun q => s.classBlocks (s.map.classAt q.1 q.2))

/-- The blocking distance d (R78, R79). -/
def State.blockingDistance (s : State) (r : Rays) : Int :=
  if s.pose.quality = .lost then 1280
  else match (List.range' 1 128).find? (s.blockedAt r) with
    | some k => 10 * ((k : Int) - 1)
    | none => 1280

/-- The class caps of the samples of index `k`; a blocking class contributes none (R81; log entry 12). -/
def State.capsAt (s : State) (r : Rays) (k : Nat) : List Int :=
  (r.samples k).filterMap (fun q =>
    let c := s.map.classAt q.1 q.2
    if s.classBlocks c then none else some ((s.map.record c).cap : Int))

/-- The class caps of a computation (R79, R81). -/
def State.classCaps (s : State) (r : Rays) : List Int :=
  if s.pose.quality = .lost then []
  else (List.range (s.paramNat .capHorizon / 10 + 1)).flatMap (s.capsAt r)

/-! ## The law and the bound (R80 to R83) -/

/-- The law speed (R80). -/
def lawSpeed (decel margin d : Int) : Int :=
  if d ≤ margin then 0 else (isqrt (2 * decel * (d - margin)).toNat : Int)

/-- Some cliff sensor reads UNSAFE (R82). -/
def HazardUnit.anyUnsafe (z : HazardUnit) : Bool :=
  z.fl.level == .unsafe_ || z.fr.level == .unsafe_ || z.sl.level == .unsafe_ || z.sr.level == .unsafe_

/-- The terms of the bound other than the law speed (R82). -/
def State.boundTerms (s : State) (r : Rays) (u : Int) : List Int :=
  s.classCaps r ++
  (if u < 0 then [s.param .reverseCap] else []) ++
  (if s.pose.quality = .degraded then [s.param .degradedCap] else []) ++
  (if s.pose.quality = .lost then [s.param .lostCap] else []) ++
  (if s.trv.state = .limp then [s.param .limpSpeed] else []) ++
  (if 0 < u ∧ s.haz.anyUnsafe then [0] else [])

/-- The bound: the least of its terms (R82). -/
def State.bound (s : State) (r : Rays) (u d : Int) : Int :=
  (s.boundTerms r u).foldl min (lawSpeed (s.param .decel) (s.param .margin) d)

/-- The sent speed: u, its magnitude held to the bound (R83). -/
def cutTo (bound u : Int) : Int := if (u.natAbs : Int) ≤ bound then u else u.sign * bound

/-- The sent turn rate (R84). -/
def turnRate (goal : Target) (v : Int) : Int :=
  if goal.v = 0 then goal.w else (goal.w * v).tdiv goal.v

/-- The half-difference of the wheels (R85). -/
def halfDifference (w track : Int) : Int := (w * track).tdiv 2000000

/-! ## Brushes (R86) -/

/-- The class under the centre (R86). -/
def State.centreClass (s : State) : ClassNo :=
  if s.pose.quality = .lost then 0 else s.map.classAt s.pose.xmm s.pose.ymm

/-- The brush settings sent (R86). -/
def State.brushes (s : State) : Brush × Bool :=
  let r := s.map.record s.centreClass
  match s.trv.state, s.seg.queue with
  | .cruise, g :: _ => (.least g.brush r.brush, g.side && r.side)
  | .limp, g :: _ => (.least g.brush r.brush, g.side && r.side)
  | _, _ => (.off, false)

/-! ## One computation (R71) -/

/-- What a computation finds and hands to the Drive Exchange. `held` says that the record played is
held (R87). -/
structure Computation where
  v : Int
  w : Int
  d : Int
  bound : Int
  left : Int
  right : Int
  brush : Brush
  side : Bool
  held : Bool
  deriving DecidableEq, Repr

/-- A forced stop (R73). -/
def Computation.forcedStop : Computation := ⟨0, 0, 1280, 0, 0, 0, .off, false, false⟩

/-- A wheel speed clamped to WHEEL_MAX (R85). -/
def State.wheel (s : State) (n : Int) : Int := clampInt (-s.param .wheelMax) (s.param .wheelMax) n

/-- A computation for a target. -/
def State.compute (s : State) (goal : Target) : Computation :=
  let u := ramp (rampStep (s.param .accel)) (rampStep (s.param .decel)) s.env.p goal.v
  let r := s.rays (probeHeading s.pose.h u)
  let d := if u = 0 then 1280 else s.blockingDistance r
  let bound := if u = 0 then 0 else s.bound r u d
  let v := if u = 0 then 0 else cutTo bound u
  let w := turnRate goal v
  let q := halfDifference w (s.param .track)
  { v := v, w := w, d := d, bound := bound, left := s.wheel (v - q), right := s.wheel (v + q),
    brush := s.brushes.1, side := s.brushes.2,
    held := decide (goal.v ≠ 0) && decide (u ≠ 0) && decide (u.sign = goal.v.sign) &&
      decide (bound = 0) }

/-- The computation of a period. -/
def State.computation (s : State) : Computation :=
  match s.target with
  | none => .forcedStop
  | some goal => s.compute goal

/-! ## Held time (R65, R87, R88) -/

/-- A held time after a computation (R87). -/
def State.heldTime (s : State) (held : Bool) (before : Nat) : Nat :=
  if held then min (before + 10) (s.paramNat .holdLimit) else 0

/-- The held time has reached HOLD_LIMIT in a held computation (R88). -/
def State.holdReached (s : State) (held : Bool) (before : Nat) : Bool :=
  held && decide (s.paramNat .holdLimit ≤ before + 10)

/-- The hold limit ends the segment (R88): the queue is aborted, the state becomes IDLE, and a pending
yield is cancelled with DOCK FAILED for the reason HALTED (R136). -/
def State.holdLimit (s : State) : State :=
  ((s.enter .idle).abortWhole .holdLimit).raiseDockFailed s .halted

/-- The record played is judged (R87): the ACTIVE record in CRUISE and LIMP, the back-off record in
BACKOFF. -/
def State.judgeHeld (held : Bool) (s : State) : State :=
  match s.trv.state with
  | .cruise | .limp =>
    match s.seg.queue with
    | [] => s
    | g :: rest =>
      let t := { s with seg := { s.seg with
        queue := { g with held := s.heldTime held g.held } :: rest } }
      if s.holdReached held g.held then t.holdLimit else t
  | .backoff =>
    match s.trv.backoff with
    | none => s
    | some b =>
      let b' := { b with held := s.heldTime held b.held }
      if s.holdReached held b.held then s.endBackoff .blocked b'
      else { s with trv := { s.trv with backoff := some b' } }
  | _ => s

end Sys2Proof.Machine
end

