-- ==== Sys2Proof/Machine/Port.lean ====
section
/-! DEFINITION. The ports: how an intact frame is taken, and how an N-link request is answered (R178 to R181). -/

namespace Sys2Proof.Machine

/-- The receiver of a link after it handed on an intact frame of `n` payload bytes (R178). -/
def State.frameTaken (link : Link) (n : Nat) (s : State) : State :=
  match link with
  | .n => { s with port := { s.port with rxN := s.port.rxN.afterFrame n } }
  | .d => { s with port := { s.port with rxD := s.port.rxD.afterFrame n } }
  | .s => { s with port := { s.port with rxS := s.port.rxS.afterFrame n } }

/-- A REPLY frame (R188). -/
def replyFrame (req : Byte) (kind : Byte) (r : Reply) : Frame :=
  { kind := kindReply, payload := req :: kind :: r.code.byte :: r.data }

/-- A request is carried out and answered in one event. Its reply takes its place in the output queue
first, so that it always has the room case 2 of R180 found, and the reports the request raises follow
it (log entry 6); what the reply says stands as the request left it. -/
def State.answer (kind req : Byte) (act : State → State × Reply) (s : State) : State :=
  let composed := (act (s.pushUp (replyFrame req kind ⟨.ok, []⟩))).2
  (act (s.pushUp (replyFrame req kind composed))).1

/-- Cases 4 and 5 of R180: the reply of the port itself, where it does not hand the request on. -/
def portRefusal (travel : Travel) (k : NKind) (payload : List Byte) : Option Reply :=
  match lengthRefusal k payload with
  | some r => some r
  | none => if travel = .locked ∧ k ≠ .query then some ⟨.state, []⟩ else none

/-- The N-link port takes an intact frame of a downstream kind (R180); `act` is its owner's handling. -/
def State.takeRequest (k : NKind) (payload : List Byte) (act : State → State × Reply) (s : State) :
    State :=
  s.onRunning fun s =>
    let s := s.frameTaken .n payload.length
    match payload with
    | [] => s.count .nCheck 1
    | req :: _ =>
      if 16 ≤ s.queued then s.count .replyLost 1
      else match portRefusal s.trv.state k payload with
        | some r => s.answer k.code req (fun t => (t, r))
        | none => s.answer k.code req act

/-- The N-link port takes an intact frame of a kind that is not downstream (cases 1 to 3 of R180). -/
def State.takeUnknown (kind : Byte) (payload : List Byte) (s : State) : State :=
  s.onRunning fun s =>
    let s := s.frameTaken .n payload.length
    match payload with
    | [] => s.count .nCheck 1
    | req :: _ =>
      let s := s.count .nKind 1
      if 16 ≤ s.queued then s.count .replyLost 1
      else s.answer kind req (fun t => (t, ⟨.kind, []⟩))

end Sys2Proof.Machine
end

