-- ==== Sys2Proof/Machine/Exchange.lean ====
section
/-! DEFINITION. The drive exchange: DRIVE_PERIOD, ODOM, RESPONSE_TIMER_EXPIRY and GUARD_TIMER_EXPIRY (chapters 2, 3, 6). -/

namespace Sys2Proof.Machine

/-! ## DRIVE_PERIOD (R54, R70, R115, R116) -/

/-- A DRIVE frame (R190). -/
def driveFrame (tag : Nat) (c : Computation) : Frame :=
  { kind := kindDrive
    payload := carry8 tag :: carry16 c.left ++ carry16 c.right ++
      [carry8 c.brush.number, carryFlag c.side] }

/-- A DRIVE is sent and its exchange begins (R116). -/
def State.sendDrive (c : Computation) (s : State) : State :=
  let s := s.pushDown (driveFrame s.drv.nextTag c)
  { s with drv := { s.drv with
      exTag := s.drv.nextTag, nextTag := (s.drv.nextTag + 1) % 16, phase := .outstanding
      response := some (s.paramNat .responseTimeout), sentL := c.left, sentR := c.right } }

/-- The envelope's half of a period event: the computation, its record, the DRIVE frame and the
held time (R70, R71). p is what the last computation sent (R69) and nothing else moves it but a reset: where a
state of R73 is entered and left again before any computation was taken in it, the ramp goes on from that speed,
though R73 has it begin at 0 (DEDUCED, log entry 30). -/
def State.envelopeEvent (s : State) : State :=
  let c := s.computation
  let t := { s with env := { p := c.v, lastD := c.d, lastBound := c.bound, left := c.left, right := c.right } }
  (t.sendDrive c).judgeHeld c.held

/-- The Segment Queue's half of a period event: 10 ms of elapsed time (R54). -/
def State.timeEvent (s : State) : State :=
  match s.seg.queue with
  | [] => s
  | g :: rest =>
    let g := { g with elapsed := g.elapsed + 10 }
    let t := { s with seg := { s.seg with queue := g :: rest } }
    if g.kind = .time ∧ g.extent ≤ g.elapsed then t.completeActive else t

/-- The next interval begins (R115). -/
def State.beginInterval (s : State) : State :=
  let length := if s.trv.state = .docked then s.paramNat .restPeriod else 10
  { s with drv := { s.drv with period := some ⟨length, 0⟩ } }

/-- The two halves of a period event in the order given (R54, R89). -/
def State.periodEvent (order : PeriodOrder) (s : State) : State :=
  match order with
  | .envelopeFirst => s.beginInterval.envelopeEvent.timeEvent
  | .queueFirst => s.beginInterval.timeEvent.envelopeEvent

/-- DRIVE_PERIOD: the period timer expires. -/
def execDrivePeriod (order : PeriodOrder) (s : State) : Host.Outcome State Fault Refusal :=
  .next (s.onRunning fun s => if s.drv.period.isSome then s.periodEvent order else s)

/-! ## The odometry step (R27 to R34) -/

/-- A wheel delta: a counter's change, read as a signed 16-bit value (R28). -/
def wheelDelta (new old : Nat) : Int :=
  let d := ((new : Int) - old) % 65536
  if 32768 ≤ d then d - 65536 else d

/-- A stall count after the odometry reference check of a READY handover (R33). -/
def stallAfter (count : Nat) (commanded delta : Int) : Nat :=
  if commanded.natAbs < 50 then count else if delta = 0 then count + 1 else 0

/-- A stall count has risen to ODOM_CHECK_K or beyond (R34). -/
def stallFires (k count after : Nat) : Bool := decide (count < after) && decide (k ≤ after)

/-- A step to integrate: forward travel and heading change. -/
structure OdomStep where
  ds : Int
  dh : Int
  deriving DecidableEq, Repr

/-- Stages 1 to 4 of R29. -/
def State.odomStep (s : State) (dl dr : Int) : OdomStep :=
  let sl := dl * s.param .tickL
  let sr := dr * s.param .tickR
  { ds := (sl + sr).tdiv 2, dh := roundDiv ((sr - sl) * 10430) (s.param .track) }

/-- Stages 5 to 9 of R29, before the clamp: the new x, y and h. -/
def PoseUnit.advance (p : PoseUnit) (st : OdomStep) : Int × Int × Nat :=
  let hm := (((p.h : Int) + st.dh.tdiv 2) % 65536).toNat
  let i := headingIndex hm
  (p.x + st.ds * cosine i / 16384, p.y + st.ds * sine i / 16384, (((p.h : Int) + st.dh) % 65536).toNat)

/-- A coordinate clamped to the map's edge (R30). -/
def clampToMap (n : Int) : Int := clampInt (-12800000) 12799999 n

/-- The step is integrated and clamped to the map (R29, R30); a clamp lowers a GOOD quality. -/
def PoseUnit.integrate (p : PoseUnit) (st : OdomStep) : PoseUnit × Bool :=
  let (x, y, h) := p.advance st
  let clamped := decide (clampToMap x ≠ x) || decide (clampToMap y ≠ y)
  ({ p with x := clampToMap x, y := clampToMap y, h := h
            quality := if clamped then p.quality.doubted else p.quality }, clamped)

/-- The ACTIVE record takes a step, and completes by distance or angle (R53). -/
def State.segmentProgress (st : OdomStep) (s : State) : State :=
  match s.seg.queue with
  | [] => s
  | g :: rest =>
    let g := { g with dist := g.dist + st.ds.natAbs, turn := g.turn + st.dh }
    let t := { s with seg := { s.seg with queue := g :: rest } }
    let done := match g.kind with
      | .distance => decide (1000 * g.extent ≤ g.dist)
      | .angle => decide (g.extent ≤ g.turn.natAbs)
      | .time => false
    if done then t.completeActive else t

/-- The back-off takes a step's reverse travel, and completes at its distance (R64). -/
def State.backoffProgress (st : OdomStep) (s : State) : State :=
  match s.trv.state, s.trv.backoff with
  | .backoff, some b =>
    let b := { b with progress := b.progress + (-st.ds).toNat }
    if 1000 * b.distance ≤ b.progress then
      let t := s.endBackoff .completed b
      if b.reason = .undock then t.raise .undocked else t
    else { s with trv := { s.trv with backoff := some b } }
  | _, _ => s

/-- A step is handed on as progress (R31). -/
def State.handOn (st : OdomStep) (s : State) : State := (s.backoffProgress st).segmentProgress st

/-- What a handover with a base present does to the pose, and what follows it: the events it raises,
whether the ODOM_LOSS latch is set, and the step handed on (R27). -/
structure Handover where
  pose : PoseUnit
  odomLoss : Bool
  events : List Event
  step : Option OdomStep
  deriving DecidableEq, Repr

/-- The four stages of R27, from the wheel deltas on. No wheel is checked in DOCKED or in FAULT (R33,
R146; log entry 25). -/
def State.handover (s : State) (left right : Nat) (base : Nat × Nat) (ready : Bool) : Handover :=
  let dl := wheelDelta left base.1
  let dr := wheelDelta right base.2
  let k := s.paramNat .odomCheckK
  -- the odometry reference check
  let p : PoseUnit := { s.pose with base := some (left, right) }
  let checked := ready && s.trv.state != .docked && s.trv.state != .fault
  let nl := if checked then stallAfter p.stallL s.drv.sentL dl else p.stallL
  let nr := if checked then stallAfter p.stallR s.drv.sentR dr else p.stallR
  let firesL := stallFires k p.stallL nl
  let firesR := stallFires k p.stallR nr
  let loss := firesL || firesR
  let p : PoseUnit := { p with
    stallL := if firesL then 0 else nl
    stallR := if firesR then 0 else nr
    quality := if loss then p.quality.doubted else p.quality }
  let lossEvents : List Event := if loss then [.poseDegraded .odomLoss] else []
  -- the jump guard
  if s.paramNat .maxTicks < dl.natAbs ∨ s.paramNat .maxTicks < dr.natAbs then
    { pose := { p with quality := p.quality.doubted }, odomLoss := loss, step := none
      events := lossEvents ++ (if p.quality = .good then [.poseDegraded .odomJump] else []) }
  else
    let st := s.odomStep dl dr
    let r := p.integrate st
    { pose := r.1, odomLoss := loss, step := some st
      events := lossEvents ++
        (if r.2 = true ∧ p.quality = .good then [.poseDegraded .mapEdge] else []) }

/-- The Pose Unit takes a handover (R27). The events it raises carry the pose as the handover left it
(R25; log entry 14), and the step is handed on after them. -/
def State.takeHandover (left right : Nat) (ready : Bool) (s : State) : State :=
  match s.pose.base with
  | none => { s with pose := { s.pose with base := some (left, right) } }
  | some base =>
    let r := s.handover left right base ready
    let t := { s with pose := r.pose }
    let t := (if r.odomLoss then t.setLatch .odomLoss else t).raiseAll r.events
    match r.step with
    | none => t
    | some st => t.handOn st

/-! ## ODOM (R117, R118) -/

/-- How an ODOM is classified (R117). -/
inductive OdomClass where
  | answer | late | stray
  deriving DecidableEq, Repr

def DriveExchange.classify (d : DriveExchange) (tag : Nat) : OdomClass :=
  match d.phase with
  | .outstanding => if tag = d.exTag then .answer else .stray
  | .missed => if tag = d.exTag then .late else .stray
  | .clear | .answered => .stray

/-- The status of an answer acts (step 4 of R118). -/
def State.actOnStatus (f : OdomFields) (s : State) : State :=
  match f.status with
  | .ready => { s with drv := { s.drv with waits := 0 } }
  | .wait =>
    let t := { s with drv := { s.drv with waits := saturate 65535 s.drv.waits 1 } }
    if t.paramNat .waitLimit ≤ t.drv.waits then t.driveFault .driveStuck 0 else t
  | .fault => s.driveFault .driveFault f.code

/-- The answer completes the exchange (R118). -/
def State.takeAnswer (f : OdomFields) (s : State) : State :=
  let t := { s with drv := { s.drv with response := none, phase := .answered, misses := 0 } }
  (t.takeHandover f.left f.right (decide (f.status = .ready))).actOnStatus f

/-- The Drive Exchange takes an ODOM (R117). -/
def State.takeOdom (f : OdomFields) (s : State) : State :=
  match s.drv.classify f.tag with
  | .answer => s.takeAnswer f
  | .late => s.count .driveLate 1
  | .stray => s.count .driveStray 1

/-- The D-link port takes an intact frame (R179). -/
def State.takeDLink (kind : Byte) (payload : List Byte) (s : State) : State :=
  s.onRunning fun s =>
    let s := s.frameTaken .d payload.length
    if kind = kindOdom ∧ payload.length = 7 then s.takeOdom (.read payload) else s.count .dCheck 1

/-- ODOM. -/
def execOdom (payload : List Byte) (s : State) : Host.Outcome State Fault Refusal :=
  .next (s.takeDLink kindOdom payload)

/-! ## Misses and the guard window (R119, R123) -/

/-- The exchange ends as a miss (R119). -/
def State.miss (s : State) : State :=
  let t := { s with drv := { s.drv with
    phase := .missed, response := none, misses := saturate 255 s.drv.misses 1 } }
  let t := (t.count .driveTimeout 1).setLatch .driveTimeout
  if t.paramNat .missLimit ≤ t.drv.misses then t.driveFault .driveLost 0 else t

/-- RESPONSE_TIMER_EXPIRY. -/
def execResponseTimerExpiry (s : State) : Host.Outcome State Fault Refusal :=
  .next (s.onRunning fun s => if s.drv.response.isSome then s.miss else s)

/-- GUARD_TIMER_EXPIRY: the timer stops and no event is raised (R123). -/
def execGuardTimerExpiry (s : State) : Host.Outcome State Fault Refusal :=
  .next (s.onRunning fun s => { s with drv := { s.drv with guard := none } })

end Sys2Proof.Machine
end

