-- ==== Sys2Proof/Machine/Loads.lean ====
section
/-! DEFINITION. The table loads: TILE_FILL, TILE_RUN, CLASS and BEACON (chapters 1 and 7). -/

namespace Sys2Proof.Machine

/-! ## Writing tiles (R10) -/

/-- How a tile write is counted (R10). -/
inductive TileOutcome where
  | neither | changed | guarded
  deriving DecidableEq, Repr

/-- The outcome of a tile write on a tile's record (R10); `guarded` is the spec's "protected". -/
def tileOutcome (old : Byte) (c : ClassNo) (override : Bool) : TileOutcome :=
  if tileObserved old then (if override then .changed else .guarded)
  else if old = loadedTile c then .neither
  else .changed

/-- The map so far, the tiles changed and the tiles protected. -/
structure TileTally where
  map : TileMap
  changed : Nat
  guarded : Nat
  deriving DecidableEq, Repr

/-- One tile write of a request: a tile that changes makes its page dirty (R10, R17). -/
def TileTally.write (t : TileTally) (override : Bool) (tx ty : Nat) (c : ClassNo) : TileTally :=
  match tileOutcome (t.map.tiles.read (tileAddress tx ty)) c override with
  | .neither => t
  | .guarded => { t with guarded := t.guarded + 1 }
  | .changed => { t with map := t.map.writeTile tx ty (loadedTile c), changed := t.changed + 1 }

/-- The numbers from `lo` to `hi`, both included. -/
def span (lo hi : Nat) : List Nat := List.range' lo (hi + 1 - lo)

/-- The pieces of a rectangle, in ascending page index (R13): the column and row of each page. -/
def FillFields.pieces (f : FillFields) : List (Nat × Nat) :=
  (span (f.ty0 / 16) (f.ty1 / 16)).flatMap (fun py =>
    (span (f.tx0 / 16) (f.tx1 / 16)).map (fun px => (px, py)))

/-- The tiles of one piece: the part of the rectangle inside the page (R13). -/
def FillFields.pieceTiles (f : FillFields) (piece : Nat × Nat) : List (Nat × Nat) :=
  (span (max f.ty0 (16 * piece.2)) (min f.ty1 (16 * piece.2 + 15))).flatMap (fun ty =>
    (span (max f.tx0 (16 * piece.1)) (min f.tx1 (16 * piece.1 + 15))).map (fun tx => (tx, ty)))

/-- The tiles of the rectangle, piece by piece. -/
def FillFields.tiles (f : FillFields) : List (Nat × Nat) := f.pieces.flatMap f.pieceTiles

/-- The fill is refused (R12). -/
def FillFields.refused (f : FillFields) : Bool :=
  decide (f.tx1 < f.tx0) || decide (f.ty1 < f.ty0) || decide (15 < f.cls) || decide (1 < f.override)

/-- A class number read from a byte known to be at most 15. -/
def classNo (n : Nat) : ClassNo := ⟨n % 16, Nat.mod_lt _ (by decide)⟩

/-- The fill applied to a map (R13). -/
def FillFields.apply (f : FillFields) (m : TileMap) : TileTally :=
  f.tiles.foldl (fun t tile => t.write (decide (f.override = 1)) tile.1 tile.2 (classNo f.cls)) ⟨m, 0, 0⟩

/-- The Tile Map takes a TILE_FILL (R12 to R14). -/
def tileFillAct (f : FillFields) (s : State) : State × Reply :=
  if f.refused then (s, ⟨.range, carry16 0 ++ carry32 0 ++ carry32 0⟩)
  else
    let t := f.apply s.map
    ({ s with map := t.map },
     ⟨.ok, carry16 f.pieces.length ++ carry32 t.changed ++ carry32 t.guarded⟩)

/-- TILE_FILL. -/
def execTileFill (payload : List Byte) (s : State) : Host.Outcome State Fault Refusal :=
  .next (s.takeRequest .tileFill payload (tileFillAct (.read payload)))

/-! ## TILE_RUN (R15, R16) -/

/-- The run is refused (R15). -/
def RunFields.refused (f : RunFields) : Bool :=
  decide (f.count = 0) || decide (190 < f.count) || f.values.any (fun v => decide (15 < v)) ||
  decide (1 < f.override)

/-- The values that fall on the map, each with its tx (R16). -/
def RunFields.placed (f : RunFields) : List (Nat × Nat) :=
  (f.values.zipIdx.map (fun e => (f.tx + e.2, e.1))).filter (fun e => decide (e.1 ≤ 255))

/-- The run applied to a map (R16). -/
def RunFields.apply (f : RunFields) (m : TileMap) : TileTally :=
  f.placed.foldl (fun t e => t.write (decide (f.override = 1)) e.1 f.ty (classNo e.2)) ⟨m, 0, 0⟩

/-- The Tile Map takes a TILE_RUN. -/
def tileRunAct (f : RunFields) (s : State) : State × Reply :=
  if f.refused then (s, ⟨.range, [0, 0, 0]⟩)
  else
    let t := f.apply s.map
    ({ s with map := t.map },
     ⟨.okOr (decide (f.placed.length < f.values.length)),
      [carry8 f.placed.length, carry8 t.changed, carry8 t.guarded]⟩)

/-- TILE_RUN. -/
def execTileRun (payload : List Byte) (s : State) : Host.Outcome State Fault Refusal :=
  .next (s.takeRequest .tileRun payload (tileRunAct (.read payload)))

/-! ## CLASS (R18 to R20) -/

/-- A class record as replies carry it (R9, R188). -/
def ClassRecord.data (r : ClassRecord) : List Byte :=
  carryFlag r.blocks :: carry16 r.cap ++ [carry8 r.brush.number, carryFlag r.side] ++ carry16 r.cliff

/-- The class may not be made passable (R7, R19). -/
def alwaysBlocks (c : ClassNo) : Bool := c == 6 || c == 8

/-- The record a CLASS request stores, after clamping (R18, R19). -/
def ClassFields.record (f : ClassFields) : ClassRecord :=
  { blocks := decide (f.blocks ≠ 0) || alwaysBlocks (classNo f.cls), cap := min f.cap 700,
    brush := .ofNumber f.brush, side := decide (f.side ≠ 0), cliff := min f.cliff 1023 }

/-- Some value of the request was clamped, or CLIFF or DOCK kept blocking (R18, R19). -/
def ClassFields.clamps (f : ClassFields) : Bool :=
  decide (1 < f.blocks) || decide (700 < f.cap) || decide (3 < f.brush) || decide (1 < f.side) ||
  decide (1023 < f.cliff) || (decide (f.blocks = 0) && alwaysBlocks (classNo f.cls))

/-- The request's class and five values as carried. -/
def ClassFields.asCarried (f : ClassFields) : List Byte :=
  [carry8 f.cls, carry8 f.blocks] ++ carry16 f.cap ++ [carry8 f.brush, carry8 f.side] ++
    carry16 f.cliff

/-- The Tile Map takes a CLASS request. -/
def classAct (f : ClassFields) (s : State) : State × Reply :=
  if 15 < f.cls then (s, ⟨.range, f.asCarried⟩)
  else
    ({ s with map := { s.map with classes := s.map.classes.set (classNo f.cls) f.record } },
     ⟨.okOr f.clamps, carry8 f.cls :: f.record.data⟩)

/-- CLASS. -/
def execClassRecord (payload : List Byte) (s : State) : Host.Outcome State Fault Refusal :=
  .next (s.takeRequest .classRecord payload (classAct (.read payload)))

/-! ## BEACON (R139) -/

/-- The place of a pair's entry: (l, r) at 5l + r. -/
def beaconIndex (l r : Nat) : Fin 25 := ⟨(5 * l + r) % 25, Nat.mod_lt _ (by decide)⟩

/-- The entry a BEACON request stores, after clamping. -/
def BeaconFields.entry (f : BeaconFields) : BeaconEntry :=
  { v := clampInt (-100) 150 f.v, w := clampInt (-1500) 1500 f.w }

/-- The Dock Approach Unit takes a BEACON request. -/
def beaconAct (f : BeaconFields) (s : State) : State × Reply :=
  if 4 < f.left ∨ 4 < f.right then
    (s, ⟨.range, [carry8 f.left, carry8 f.right] ++ carry16 f.v ++ carry16 f.w⟩)
  else
    let e := f.entry
    ({ s with dock := { s.dock with beacon := s.dock.beacon.set (beaconIndex f.left f.right) e } },
     ⟨.okOr (decide (e.v ≠ f.v) || decide (e.w ≠ f.w)),
      [carry8 f.left, carry8 f.right] ++ carry16 e.v ++ carry16 e.w⟩)

/-- BEACON. -/
def execBeacon (payload : List Byte) (s : State) : Host.Outcome State Fault Refusal :=
  .next (s.takeRequest .beacon payload (beaconAct (.read payload)))

end Sys2Proof.Machine
end

