-- ==== Sys2Proof/Machine/Manage.lean ====
section
/-! DEFINITION. The management requests: CONFIG, MASK, ACK, SAVE, STORE_CLEAR and RESET (chapters 8, 9, 10). -/

namespace Sys2Proof.Machine

/-! ## CONFIG (R182) -/

/-- CONFIG may change geometry in this state (R182). -/
def Travel.allowsGeometry (t : Travel) : Bool :=
  t == .idle || t == .halted || t == .docked || t == .fault

/-- The value CONFIG stores: clamped to the range, and REST_PERIOD rounded down to a multiple of 10. -/
def Param.stored (p : Param) (value : Int) : Int :=
  let clamped := clampInt p.row.lo p.row.hi value
  if p = .restPeriod then clamped / 10 * 10 else clamped

/-- What the write of a parameter does beside setting it: a write of TELE_PERIOD may start the telemetry
timer (R171), and a write of FORWARD_DECIM sets the forwarding count to 0 (R172). -/
def State.configured (p : Param) (s : State) : State :=
  match p with
  | .telePeriod =>
    if s.rep.tele = none then { s with rep := { s.rep with tele := s.teleInterval } } else s
  | .forwardDecim => { s with rep := { s.rep with fwd := 0 } }
  | _ => s

/-- The port takes a CONFIG. -/
def configAct (id : Byte) (value : Int) (s : State) : State × Reply :=
  match Param.ofId id with
  | none => (s, ⟨.range, id :: carry32 value⟩)
  | some p =>
    if p.row.geometry && !s.trv.state.allowsGeometry then (s, ⟨.state, id :: carry32 (s.param p)⟩)
    else
      let v := p.stored value
      (State.configured p { s with params := s.params.set p.index v },
       ⟨.okOr (decide (v ≠ value)), id :: carry32 v⟩)

/-- CONFIG. -/
def execConfig (payload : List Byte) (s : State) : Host.Outcome State Fault Refusal :=
  .next (s.takeRequest .config payload (configAct (byteAt payload 1) (signed32At payload 2)))

/-! ## MASK (R167) -/

/-- The data of a MASK's reply. -/
def State.maskData (s : State) : List Byte := [s.maskByte, carryFlag s.rep.enable, s.pendingClasses]

/-- The eight masks a byte carries: bit n is class n. -/
def masksOf (b : Byte) : Vector Bool 8 :=
  #v[b.getLsbD 0, b.getLsbD 1, b.getLsbD 2, b.getLsbD 3, b.getLsbD 4, b.getLsbD 5, b.getLsbD 6,
     b.getLsbD 7]

/-- The Report Unit takes a MASK. -/
def maskAct (masks : Byte) (enable : Nat) (s : State) : State × Reply :=
  if 1 < enable then (s, ⟨.range, s.maskData⟩)
  else
    let t := { s with rep := { s.rep with masks := masksOf masks, enable := decide (enable = 1) } }
    let t := if enable = 0 then { t with rep := { t.rep with held := Vector.replicate 8 none } }
      else t.release
    (t, ⟨.ok, t.maskData⟩)

/-- MASK. -/
def execMask (payload : List Byte) (s : State) : Host.Outcome State Fault Refusal :=
  .next (s.takeRequest .mask payload (maskAct (byteAt payload 1) (byteAt payload 2).toNat))

/-! ## ACK (R169) -/

/-- The Report Unit takes an ACK of the latch set given. -/
def ackAct (named : BitVec 16) (s : State) : State × Reply :=
  if named >>> 12 ≠ 0 then (s, ⟨.range, s.latchBytes⟩)
  else
    let t := { s with rep := { s.rep with latches := s.rep.latches &&& ~~~(named.setWidth 12) } }
    (t, ⟨.ok, t.latchBytes⟩)

/-- ACK. -/
def execAck (payload : List Byte) (s : State) : Host.Outcome State Fault Refusal :=
  .next (s.takeRequest .ack payload (ackAct (byteAt payload 2 ++ byteAt payload 1)))

/-! ## SAVE (R152) -/

/-- The dirty pages in ascending index. -/
def TileMap.dirtyPages (m : TileMap) : List Page := (List.finRange 256).filter (fun p => m.dirty[p])

/-- The pages a SAVE adds to the list. -/
def State.saveAdds (mode : Nat) (page : Page) (s : State) : List Page :=
  (if mode = 0 then [page] else s.map.dirtyPages).filter (fun p => decide (p ∉ s.store.list))

/-- The data of a SAVE's reply. -/
def State.saveData (added : Nat) (s : State) : List Byte :=
  carry16 added ++ carry16 s.store.list.length ++ [carry8 s.store.number]

/-- The Map Store takes a SAVE. -/
def saveAct (mode : Nat) (page : Page) (s : State) : State × Reply :=
  if 1 < mode then (s, ⟨.range, s.saveData 0⟩)
  else if s.store.error then (s, ⟨.storeError, s.saveData 0⟩)
  else
    let adds := s.saveAdds mode page
    let t := { s with store := { s.store with list := s.store.list ++ adds } }.startSave
    (t, ⟨.ok, t.saveData adds.length⟩)

/-- SAVE. -/
def execSave (payload : List Byte) (s : State) : Host.Outcome State Fault Refusal :=
  .next (s.takeRequest .save payload (saveAct (byteAt payload 1).toNat (byteAt payload 2).toFin))

/-! ## STORE_CLEAR (R157) -/

/-- The data of a STORE_CLEAR's reply. -/
def State.clearData (s : State) : List Byte :=
  carry16 s.store.list.length ++ [carry8 s.store.number]

/-- The failed page moves to the head of the list (R157). -/
def MapStore.retryFirst (st : MapStore) : List Page :=
  match st.failedPage with
  | none => st.list
  | some p => p :: st.list.filter (fun q => decide (q ≠ p))

/-- The store after a STORE_CLEAR that is carried out. -/
def State.cleared (cancel : Bool) (s : State) : State :=
  if s.store.error then
    let list := if cancel then [] else s.store.retryFirst
    { s with store := { s.store with error := false, failedPage := none, list := list } }.startSave
  else if cancel then { s with store := { s.store with list := [] } }
  else s

/-- The Map Store takes a STORE_CLEAR. -/
def storeClearAct (cancel : Nat) (s : State) : State × Reply :=
  if 1 < cancel then (s, ⟨.range, s.clearData⟩)
  else
    let t := s.cleared (decide (cancel = 1))
    (t, ⟨.ok, t.clearData⟩)

/-- STORE_CLEAR. -/
def execStoreClear (payload : List Byte) (s : State) : Host.Outcome State Fault Refusal :=
  .next (s.takeRequest .storeClear payload (storeClearAct (byteAt payload 1).toNat))

/-! ## RESET (R185) -/

/-- A cliff sensor at a soft reset: its gate is SPENT where its level is UNSAFE, ARMED otherwise (R113). -/
def CliffSensor.softReset (c : CliffSensor) : CliffSensor :=
  { c with gate := if c.level = .unsafe_ then .spent else .armed }

/-- Each block takes its soft-reset values (R42, R68, R92, R113, R130, R148, R162, R175). -/
def State.softValues (s : State) : State :=
  let t := s.enter .idle
  { t with
    pose := { s.pose with quality := s.pose.quality.doubted, base := none, stallL := 0, stallR := 0 }
    seg := .initial
    env := .initial
    haz := { s.haz with
      fl := s.haz.fl.softReset, fr := s.haz.fr.softReset
      sl := s.haz.sl.softReset, sr := s.haz.sr.softReset
      loss := some (s.paramNat .senseTimeout), silent := false }
    drv := { t.drv with
      nextTag := 0, phase := .clear, response := none, misses := 0, waits := 0, stopN := true
      guard := if s.trv.state = .fault then some (1000 * s.paramNat .faultGuard) else s.drv.guard }
    dock := { t.dock with contact := false }
    rep := { s.rep with
      held := Vector.replicate 8 none, latches := 0, tele := s.teleInterval, fwd := 0
      cause := .soft } }

/-- A soft reset (R185): the frames waiting in the output queue are discarded, the one being sent is
finished (log entry 7); the reply joins; the blocks take their values; SYSTEM START is raised, then
POSE DEGRADED where a GOOD quality was lowered (R42). -/
def State.softReset (req : Byte) (s : State) : State :=
  let t := { s with port := { s.port with out := s.port.out.take 1 } }
  let t := (t.pushUp (replyFrame req NKind.reset.code ⟨.ok, []⟩)).softValues
  let t := t.raise (.start .soft)
  if s.pose.quality = .good then t.raise (.poseDegraded .reset) else t

/-- The port takes a RESET. One of the right length in a state other than LOCKED is taken whatever the
output queue holds; any other meets the cases of R180 (R185). -/
def State.takeReset (payload : List Byte) (s : State) : State :=
  match payload with
  | [req] =>
    if s.phase = .running ∧ s.trv.state ≠ .locked then (s.frameTaken .n 1).softReset req
    else s.takeRequest .reset [req] (fun t => (t, ⟨.ok, []⟩))
  | p => s.takeRequest .reset p (fun t => (t, ⟨.ok, []⟩))

/-- RESET. -/
def execReset (payload : List Byte) (s : State) : Host.Outcome State Fault Refusal :=
  .next (s.takeReset payload)

end Sys2Proof.Machine
end

