-- ==== Sys2Proof/Config.lean ====
section
/-! DEFINITION. What the spec leaves open: free values, constants with no body, so that no proof can see one. -/

namespace Sys2Proof.Config

/-- The level of STOP_N (true is high) while the part has no supply. The spec gives none
(log entry 10). -/
opaque stopNUnpowered : Bool

/-- The four bytes in which a progress that does not fit its 4-byte field is carried. The spec gives
the field's width (R188, R189) and no rule for a value beyond it (log entry 11). -/
opaque unfit32 : Int → BitVec 32

end Sys2Proof.Config
end

