-- ==== Sys2Proof/Machine/Motion.lean ====
section
/-! DEFINITION. MOVE, KEEP, RESUME, DOCK, UNDOCK and POSE (chapters 2, 3, 5, 7). -/

namespace Sys2Proof.Machine

/-! ## The beat check (R47, R60) -/

/-- The reply code of a beat the check refuses. -/
def SegmentQueue.beatRefusal (q : SegmentQueue) (beat : Nat) : Option ReplyCode :=
  if 1 < beat then some .range
  else if q.lastBeat = some (decide (beat = 1)) then some .stale
  else none

/-- A beat passes: the last beat takes it, and LIMP gives way to CRUISE (R60). The cadence timer
restarts at the end of the frame's handling (R57). -/
def State.passBeat (beat : Nat) (s : State) : State :=
  let s := { s with seg := { s.seg with lastBeat := some (decide (beat = 1)) } }
  if s.trv.state = .limp then (s.enter .cruise).raise .cadenceRestored else s

/-! ## MOVE (R46 to R51) -/

/-- The reply code of a MOVE its travel state refuses (R48). -/
def TravelController.moveRefusal (t : TravelController) : Option ReplyCode :=
  match t.state with
  | .idle => none
  | .cruise => if t.yield then some .yielded else none
  | .approach => some .yielded
  | .halted => some .halted
  | _ => some .state

/-- The segment is no meaningful one (R49). -/
def MoveFields.senseless (f : MoveFields) : Bool :=
  decide (1 < f.placement) || decide (2 < f.kind) || decide (f.extent = 0) ||
  (decide (f.kind ≠ 1) && decide (10000 < f.extent)) ||
  (decide (f.kind = 2) && decide (f.extent < 10)) ||
  (decide (f.kind = 0) && decide (f.v = 0)) ||
  (decide (f.kind = 1) && decide (f.w = 0))

/-- Some field of the MOVE lies outside its range (R49). -/
def MoveFields.clamps (f : MoveFields) : Bool :=
  decide (clampInt (-400) 600 f.v ≠ f.v) || decide (clampInt (-3000) 3000 f.w ≠ f.w) ||
  decide (3 < f.brush) || decide (1 < f.side)

/-- The record of a MOVE, its values clamped (R43, R49). -/
def MoveFields.segment (f : MoveFields) (state : SegState) : Segment :=
  { tag := f.tag, v := clampInt (-400) 600 f.v, w := clampInt (-3000) 3000 f.w,
    kind := (ExtentKind.ofNumber? f.kind).getD .distance, extent := f.extent,
    brush := .ofNumber f.brush, side := decide (f.side ≠ 0), state := state,
    dist := 0, turn := 0, elapsed := 0, held := 0, clamped := f.clamps }

/-- The record joins the queue: ACTIVE in CRUISE where the queue is empty, QUEUED at the tail otherwise
(R50, R51). -/
def State.placeSegment (f : MoveFields) (s : State) : State :=
  if s.seg.queue = [] then
    let s := { s with seg := { s.seg with queue := [f.segment .active] } }
    s.enter .cruise
  else { s with seg := { s.seg with queue := s.seg.queue ++ [f.segment .queued] } }

/-- Steps 2 to 5 of R46, for a MOVE whose beat has passed: the state after it, the reply code and the
number of records aborted. -/
def State.judgeMove (f : MoveFields) (s : State) : State × ReplyCode × Nat :=
  match s.trv.moveRefusal with
  | some c => (s, c, 0)
  | none =>
    if f.senseless then (s, .range, 0)
    else if f.placement = 1 then
      ((s.abortWhole .replaced).placeSegment f, .okOr f.clamps, s.seg.queue.length)
    else if 8 ≤ s.seg.queue.length then (s, .full, 0)
    else (s.placeSegment f, .okOr f.clamps, 0)

/-- The data of a MOVE's reply (R46, R188). -/
def State.moveData (aborted : Nat) (s : State) : List Byte :=
  [carry8 s.trv.state.number, carry8 s.seg.queue.length, carry8 aborted]

/-- The Segment Queue takes a MOVE (R46). -/
def moveAct (f : MoveFields) (s : State) : State × Reply :=
  match s.seg.beatRefusal f.beat with
  | some c => (s, ⟨c, s.moveData 0⟩)
  | none =>
    let judged := (s.passBeat f.beat).judgeMove f
    let t := judged.1.restartCadence
    (t, ⟨judged.2.1, t.moveData judged.2.2⟩)

/-- MOVE. -/
def execMove (payload : List Byte) (s : State) : Host.Outcome State Fault Refusal :=
  .next (s.takeRequest .move payload (moveAct (.read payload)))

/-! ## KEEP (R56) -/

/-- The data of a KEEP's reply (R56, R188). -/
def State.keepData (s : State) : List Byte := [carry8 s.trv.state.number, carry8 s.seg.queue.length]

/-- The Segment Queue takes a KEEP. -/
def keepAct (beat : Nat) (s : State) : State × Reply :=
  match s.seg.beatRefusal beat with
  | some c => (s, ⟨c, s.keepData⟩)
  | none =>
    let t := (s.passBeat beat).restartCadence
    (t, ⟨.ok, t.keepData⟩)

/-- KEEP. -/
def execKeep (payload : List Byte) (s : State) : Host.Outcome State Fault Refusal :=
  .next (s.takeRequest .keep payload (keepAct (byteAt payload 1).toNat))

/-! ## RESUME (R111) -/

/-- The data of a RESUME's reply (R111, R188). -/
def State.resumeData (s : State) : List Byte :=
  [carry8 s.trv.state.number,
   carry8 s.haz.fl.level.number, carry8 s.haz.fr.level.number,
   carry8 s.haz.sl.level.number, carry8 s.haz.sr.level.number,
   carryFlag s.haz.dropL, carryFlag s.haz.dropR, carryFlag s.haz.bumpL, carryFlag s.haz.bumpR,
   carryFlag s.haz.silent]

/-- The Travel Controller takes a RESUME. -/
def resumeAct (s : State) : State × Reply :=
  if s.trv.state = .halted then
    if s.haz.silent ∨ s.haz.dropL ∨ s.haz.dropR then (s, ⟨.halted, s.resumeData⟩)
    else let t := s.enter .idle; (t, ⟨.ok, t.resumeData⟩)
  else (s, ⟨.state, s.resumeData⟩)

/-- RESUME. -/
def execResume (payload : List Byte) (s : State) : Host.Outcome State Fault Refusal :=
  .next (s.takeRequest .resume payload resumeAct)

/-! ## DOCK and UNDOCK (R134, R135, R145) -/

/-- The data of a DOCK's or UNDOCK's reply (R134, R145, R188). -/
def State.dockData (s : State) : List Byte :=
  [carry8 s.trv.state.number, carry8 s.dock.sub.number, carryFlag s.trv.yield]

/-- A yield begins (R135). -/
def State.beginYield (s : State) : State :=
  let s := s.abortQueued .yield
  { s with trv := { s.trv with yield := true }, seg := { s.seg with cadence := none } }

/-- The Travel Controller takes a DOCK (R134). -/
def dockAct (s : State) : State × Reply :=
  match s.trv.state with
  | .idle => let t := s.beginApproach; (t, ⟨.ok, t.dockData⟩)
  | .cruise =>
    if s.trv.yield then (s, ⟨.state, s.dockData⟩)
    else let t := s.beginYield; (t, ⟨.ok, t.dockData⟩)
  | .halted => (s, ⟨.halted, s.dockData⟩)
  | _ => (s, ⟨.state, s.dockData⟩)

/-- DOCK. -/
def execDock (payload : List Byte) (s : State) : Host.Outcome State Fault Refusal :=
  .next (s.takeRequest .dock payload dockAct)

/-- A pending yield is cancelled by UNDOCK (R136): the active record plays on and the cadence timer
restarts (R57). -/
def State.cancelYield (s : State) : State :=
  (({ s with trv := { s.trv with yield := false } }).raise (.dockFailed .cancelled)).restartCadence

/-- The Travel Controller takes an UNDOCK (R145). -/
def undockAct (s : State) : State × Reply :=
  match s.trv.state with
  | .docked => let t := s.startBackoff .undock; (t, ⟨.ok, t.dockData⟩)
  | .approach =>
    let t := (s.enter .idle).raise (.dockFailed .cancelled)
    (t, ⟨.ok, t.dockData⟩)
  | .cruise =>
    if s.trv.yield then let t := s.cancelYield; (t, ⟨.ok, t.dockData⟩)
    else (s, ⟨.state, s.dockData⟩)
  | _ => (s, ⟨.state, s.dockData⟩)

/-- UNDOCK. -/
def execUndock (payload : List Byte) (s : State) : Host.Outcome State Fault Refusal :=
  .next (s.takeRequest .undock payload undockAct)

/-! ## POSE (R38, R39) -/

/-- The pose record as replies and TELE frames carry it (R24, R188). -/
def PoseUnit.data (p : PoseUnit) : List Byte :=
  carry32 p.x ++ carry32 p.y ++ carry16 p.h ++ [carry8 p.quality.number]

/-- A coordinate lies on the map (R24). -/
def onMap (n : Int) : Bool := decide (-12800000 ≤ n) && decide (n ≤ 12799999)

/-- The reply code of a correction that is refused (R38). -/
def PoseFields.refusal (f : PoseFields) (travel : Travel) : Option ReplyCode :=
  if f.quality ≠ 1 ∧ f.quality ≠ 2 then some .range
  else if !(onMap f.x && onMap f.y) then some .range
  else if travel = .docked then some .state
  else none

/-- The Pose Unit takes a correction. The reply carries the pose as it stood before (R39). -/
def poseAct (f : PoseFields) (s : State) : State × Reply :=
  match f.refusal s.trv.state with
  | some c => (s, ⟨c, s.pose.data⟩)
  | none =>
    let quality : Quality := if f.quality = 2 then .good else .degraded
    let t := { s with pose := { s.pose with x := f.x, y := f.y, h := f.h, quality := quality } }
    (if s.pose.quality.number < quality.number then t.raise .poseRestored else t,
     ⟨.ok, s.pose.data⟩)

/-- POSE. -/
def execPose (payload : List Byte) (s : State) : Host.Outcome State Fault Refusal :=
  .next (s.takeRequest .pose payload (poseAct (.read payload)))

end Sys2Proof.Machine
end

