-- ==== Sys2Proof/Machine/Sensing.lean ====
section
/-! DEFINITION. Hazard sensing: SENSE, stage by stage, and SENSOR_LOSS_EXPIRY (chapters 5 and 7, R172). -/

namespace Sys2Proof.Machine

/-! ## Stage 1: the sensor-loss timer and the sequence (R94, R108) -/

/-- The frames missing between the last seq and this one (R94). -/
def missingFrames (last : Option Nat) (seq : Nat) : Nat :=
  match last with
  | none => 0
  | some n => if seq = n then 0 else (((seq : Int) - n - 1) % 256).toNat

/-- Stage 1 of R95. -/
def State.takeSeq (f : SenseFields) (s : State) : State :=
  let t := { s with haz := { s.haz with
    loss := some (s.paramNat .senseTimeout), silent := false, lastSeq := some f.seq } }
  t.count .senseGap (missingFrames s.haz.lastSeq f.seq)

/-! ## Stage 2: the wheel drops (R104, R105) -/

/-- The states in which a cliff edge or the loss of sensing halts the robot (R101, R109). -/
def Travel.moving (t : Travel) : Bool :=
  t == .idle || t == .cruise || t == .limp || t == .backoff || t == .approach

/-- A pose that is not LOST is lost (R36). -/
def State.losePose (s : State) : State :=
  if s.pose.quality = .lost then s else (s.setQuality .lost).raise .poseLost

/-- The reaction to a wheel-drop edge (R105). -/
def State.wheelDropReaction (s : State) : State :=
  if s.trv.state.moving || s.trv.state == .docked then s.halt .wheelDrop else s

/-- A wheel-drop edge (R105); `side` is 0 left, 1 right, 2 both. -/
def State.wheelDropEdge (side : Nat) (s : State) : State :=
  (((s.setLatch .wheelDrop).raise (.wheelDrop side)).losePose).wheelDropReaction

/-- The side of a wheel-drop edge, if the new levels make one (R104). -/
def HazardUnit.dropSide (z : HazardUnit) (f : SenseFields) : Option Nat :=
  match f.dropL && !z.dropL, f.dropR && !z.dropR with
  | true, true => some 2
  | true, false => some 0
  | false, true => some 1
  | false, false => none

/-- Stage 2 of R95. -/
def State.takeDrops (f : SenseFields) (s : State) : State :=
  let t := { s with haz := { s.haz with dropL := f.dropL, dropR := f.dropR } }
  match s.haz.dropSide f with
  | some side => t.wheelDropEdge side
  | none => t

/-! ## Stage 3: the cliff sensors (R98 to R102) -/

/-- The SENSOR_FWD parameter of a sensor. -/
def Sensor.fwd : Sensor → Param
  | .fl => .fwdFL | .fr => .fwdFR | .sl => .fwdSL | .sr => .fwdSR

/-- The SENSOR_LAT parameter of a sensor. -/
def Sensor.lat : Sensor → Param
  | .fl => .latFL | .fr => .latFR | .sl => .latSL | .sr => .latSR

/-- A sensor's projected point (R98). -/
def State.projected (s : State) (sensor : Sensor) : Int × Int :=
  let i := headingIndex s.pose.h
  let fwd := s.param sensor.fwd
  let lat := s.param sensor.lat
  (s.pose.xmm + (fwd * cosine i - lat * sine i) / 16384,
   s.pose.ymm + (fwd * sine i + lat * cosine i) / 16384)

/-- A sensor's threshold (R98). -/
def State.threshold (s : State) (sensor : Sensor) : Nat :=
  let p := s.projected sensor
  (s.map.record (if s.pose.quality = .lost then 0 else s.map.classAt p.1 p.2)).cliff

/-- A sensor's release level (R98). -/
def State.releaseLevel (s : State) (sensor : Sensor) : Nat :=
  min (s.threshold sensor + s.paramNat .cliffHyst) 1023

/-- A sensor's record. -/
def HazardUnit.sensor (z : HazardUnit) : Sensor → CliffSensor
  | .fl => z.fl | .fr => z.fr | .sl => z.sl | .sr => z.sr

/-- A sensor's record replaced. -/
def HazardUnit.setSensor (z : HazardUnit) (sensor : Sensor) (c : CliffSensor) : HazardUnit :=
  match sensor with
  | .fl => { z with fl := c }
  | .fr => { z with fr := c }
  | .sl => { z with sl := c }
  | .sr => { z with sr := c }

/-- The record after a reading, and whether the reading makes a cliff edge, which spends the gate
(R99, R100). -/
def CliffSensor.judge (c : CliffSensor) (reading threshold release : Nat) : CliffSensor × Bool :=
  match c.level with
  | .unknown => if reading < threshold then (⟨.unsafe_, .spent⟩, false) else (⟨.safe, c.gate⟩, false)
  | .safe =>
    if reading < threshold then (⟨.unsafe_, .spent⟩, decide (c.gate = .armed)) else (c, false)
  | .unsafe_ => if release ≤ reading then (⟨.safe, .armed⟩, false) else (c, false)

/-- The record an observed mark gives a tile (R102). -/
def markedTile (old : Byte) : Byte :=
  if tileObserved old ∧ tileClass old = 6 then observedTile (saturate 3 (tileCount old) 1)
  else observedTile 1

/-- An observed mark of a tile (R102), and its page's joining the save list with AUTO_SAVE on (R151,
R153). A save it starts takes its snapshot here, so a second mark of the page by a later sensor of the same
frame is not in it and lists the page again (DEDUCED, log entry 31). -/
def State.markTile (tx ty : Nat) (s : State) : State :=
  let old := s.map.tiles.read (tileAddress tx ty)
  let t := ({ s with map := s.map.writeTile tx ty (markedTile old) }).count .observedMarks 1
  if t.paramNat .autoSave = 1 then
    ({ t with store := t.store.join (tilePage tx ty) }).startSave
  else t

/-- The mark of a cliff edge at a point (step 4 of R100; R102). -/
def State.markPoint (p : Int × Int) (s : State) : State :=
  if s.pose.quality ≠ .lost ∧ s.trv.state ≠ .docked then
    match pointTile p.1 p.2 with
    | some (tx, ty) => s.markTile tx ty
    | none => s
  else s

/-- The reaction to a cliff edge (R101). -/
def State.cliffReaction (s : State) : State := if s.trv.state.moving then s.halt .cliff else s

/-- The effects of a cliff edge, its gate spent already (R100). -/
def State.cliffEdge (sensor : Sensor) (s : State) : State :=
  (((s.setLatch sensor.latch).raise (.cliff sensor)).markPoint (s.projected sensor)).cliffReaction

/-- A sensor's stage: the state after it, and whether it took a cliff edge (R98 to R102). -/
def State.takeCliff (f : SenseFields) (s : State) (sensor : Sensor) : State × Bool :=
  let r := (s.haz.sensor sensor).judge (f.reading sensor) (s.threshold sensor) (s.releaseLevel sensor)
  let t := { s with haz := s.haz.setSensor sensor r.1 }
  if r.2 then (t.cliffEdge sensor, true) else (t, false)

/-- Stage 3 of R95: FL, FR, SL, SR in this order, and whether any took a cliff edge. -/
def State.takeCliffs (f : SenseFields) (s : State) : State × Bool :=
  let a := s.takeCliff f .fl
  let b := a.1.takeCliff f .fr
  let c := b.1.takeCliff f .sl
  let d := c.1.takeCliff f .sr
  (d.1, a.2 || b.2 || c.2 || d.2)

/-! ## Stage 4: the bumpers (R106, R107) -/

/-- A bump edge of a side, where there is one: its latch and its event. -/
def State.bumpEdge (edge : Bool) (latch : Latch) (side : Nat) (s : State) : State :=
  if edge then (s.setLatch latch).raise (.bump side) else s

/-- The bump reaction (R107). -/
def State.bumpReaction (s : State) : State :=
  match s.trv.state with
  | .cruise | .limp => (((s.abortWhole .bump).startBackoff .bump)).raiseDockFailed s .bump
  | .approach =>
    if s.dock.sub = .seek ∨ s.dock.sub = .align then
      (s.startBackoff .bump).raiseDockFailed s .bump
    else s
  | _ => s

/-- Stage 4 of R95, and whether it took a bump edge. -/
def State.takeBumps (f : SenseFields) (s : State) : State × Bool :=
  let left := f.bumpL && !s.haz.bumpL
  let right := f.bumpR && !s.haz.bumpR
  let t := { s with haz := { s.haz with bumpL := f.bumpL, bumpR := f.bumpR } }
  let t := (t.bumpEdge left .bumpL 0).bumpEdge right .bumpR 1
  (if (left || right) && decide (t.paramNat .bumpReact = 1) then t.bumpReaction else t, left || right)

/-! ## Stage 5: the dock inputs (R132, R133, R141 to R143) -/

/-- The contact rule outside APPROACH (R133). -/
def State.contactRule (before after : Bool) (s : State) : State :=
  match s.trv.state, before, after with
  | .idle, false, true => s.dockNow
  | .docked, true, false =>
    let t := s.enter .idle
    (t.setQuality t.pose.quality.doubted).raise .contactLost
  | _, _, _ => s

/-- The substate becomes `sub`. -/
def State.setSub (sub : Substate) (s : State) : State := { s with dock := { s.dock with sub := sub } }

/-- The contact moves (R143): a contact of 1 in SEEK, ALIGN or CREEP enters SETTLE; a contact of 0 in
SETTLE returns to CREEP. -/
def State.contactMove (s : State) : State :=
  match s.dock.sub, s.dock.contact with
  | .seek, true | .align, true | .creep, true =>
    { s with dock := { s.dock with
        sub := .settle, settle := some (s.paramNat .contactSettle), beamLost := none } }
  | .settle, false =>
    ({ s with dock := { s.dock with sub := .creep, settle := none } }).raise .dockCreep
  | _, _ => s

/-- Both latest codes are NONE. -/
def DockUnit.dark (d : DockUnit) : Bool := d.codeL == .none_ && d.codeR == .none_

/-- Both latest codes are NEAR. -/
def DockUnit.bothNear (d : DockUnit) : Bool := d.codeL == .near && d.codeR == .near

/-- The code-driven moves (R141). -/
def State.codeMove (s : State) : State :=
  match s.dock.sub with
  | .seek => if s.dock.dark then s else (s.setSub .align).raise .beamFound
  | .align => if s.dock.bothNear then (s.setSub .creep).raise .dockCreep else s
  | _ => s

/-- The beam-lost timer after a frame taken in APPROACH (R142). -/
def State.setBeamLost (s : State) : State :=
  let waits := (s.dock.sub == .align || s.dock.sub == .creep) && s.dock.dark
  { s with dock := { s.dock with
      beamLost := if waits then some (s.dock.beamLost.getD (s.paramNat .beamLost)) else none } }

/-- Stage 5 of R95 (R132). -/
def State.takeDockInputs (f : SenseFields) (s : State) : State :=
  let t := { s with dock := { s.dock with codeL := f.codeL, codeR := f.codeR, contact := f.contact } }
  if s.trv.state = .approach then t.contactMove.codeMove.setBeamLost
  else t.contactRule s.dock.contact f.contact

/-! ## Stage 6: forwarding (R172) -/

/-- The SENSE_UP frame of a sample (R172, R189). -/
def State.senseUp (f : SenseFields) (s : State) : Frame :=
  { kind := kindSenseUp
    payload := f.bytes ++ carry16 s.pose.xmm ++ carry16 s.pose.ymm ++ carry16 s.pose.h ++
      [carry8 s.trv.state.number, carry8 (s.map.classAt s.pose.xmm s.pose.ymm).val] }

/-- A frame joins the output queue where it holds fewer than 12; a counter rises otherwise (R181). -/
def State.pushLow (f : Frame) (skip : Counter) (s : State) : State :=
  if s.queued < 12 then s.pushUp f else s.count skip 1

/-- The forwarding count after a frame, and whether the frame is due (step 1 of R172). -/
def State.forwardCount (s : State) : Nat × Bool :=
  let decim := s.paramNat .forwardDecim
  if decim = 0 then (s.rep.fwd, false)
  else if decim ≤ s.rep.fwd + 1 then (0, true)
  else (s.rep.fwd + 1, false)

/-- Stage 6 of R95. -/
def State.forward (f : SenseFields) (flag : Bool) (s : State) : State :=
  let c := s.forwardCount
  let t := { s with rep := { s.rep with fwd := c.1 } }
  if c.2 || flag then t.pushLow (t.senseUp f) .forwardSkip else t

/-! ## SENSE (R95, R179) -/

/-- The Hazard Unit takes a SENSE frame (R95). -/
def State.takeSense (f : SenseFields) (s : State) : State :=
  let s1 := s.takeSeq f
  let drop := (s1.haz.dropSide f).isSome
  let s2 := s1.takeDrops f
  let r3 := s2.takeCliffs f
  let r4 := r3.1.takeBumps f
  (r4.1.takeDockInputs f).forward f (drop || r3.2 || r4.2)

/-- The S-link port takes an intact frame (R179). -/
def State.takeSLink (kind : Byte) (payload : List Byte) (s : State) : State :=
  s.onRunning fun s =>
    let s := s.frameTaken .s payload.length
    if kind = kindSense ∧ payload.length = 16 then s.takeSense (.read payload) else s.count .sCheck 1

/-- SENSE. -/
def execSense (payload : List Byte) (s : State) : Host.Outcome State Fault Refusal :=
  .next (s.takeSLink kindSense payload)

/-! ## SENSOR_LOSS_EXPIRY (R109) -/

/-- The SENSOR_LOST latch and HAZARD SENSOR_LOST (R109). -/
def State.reportSensorLost (s : State) : State := (s.setLatch .sensorLost).raise .sensorLost

/-- What an expiry does beside restarting the timer and setting the silent flag (R109). In FAULT it does
nothing more: R109 and R122 are followed against the third row of R128, by which a hazard taken after the
entry to FAULT latches and reports (DEDUCED, log entry 28). -/
def State.sensorLossReaction (s : State) : State :=
  if s.trv.state.moving then s.reportSensorLost.halt .sensorLost
  else if s.trv.state = .halted ∧ s.haz.silent = false then s.reportSensorLost
  else s

/-- An expiry of the sensor-loss timer (R109). -/
def State.sensorLoss (s : State) : State :=
  let t := { s with haz := { s.haz with loss := some (s.paramNat .senseTimeout) } }
  let t := t.sensorLossReaction
  { t with haz := { t.haz with silent := true } }

/-- SENSOR_LOSS_EXPIRY. -/
def execSensorLossExpiry (s : State) : Host.Outcome State Fault Refusal :=
  .next (s.onRunning fun s => if s.haz.loss.isSome then s.sensorLoss else s)

end Sys2Proof.Machine
end

