-- ==== Sys2Proof/Machine/Timers.lean ====
section
/-! DEFINITION. The expiries of the cadence, limp grace, approach, beam-lost, settle and telemetry timers (chapters 3, 7, 9). -/

namespace Sys2Proof.Machine

/-! ## CADENCE_EXPIRY (R58, R59) -/

/-- The state becomes LIMP and the grace timer starts (R59). -/
def State.enterLimp (s : State) : State :=
  let t := s.enter .limp
  { t with trv := { t.trv with grace := some (t.paramNat .limpGrace) } }

/-- The expiry of the cadence timer (R58, R59). The detail of CADENCE LOST is CADENCE_POLICY as it
stands (R164; log entry 21). -/
def State.cadenceLost (s : State) : State :=
  let t := s.raise (.cadenceLost (s.paramNat .cadencePolicy))
  if s.paramNat .cadencePolicy = 1 ∧ 0 < s.paramNat .limpGrace then t.enterLimp
  else (t.abortWhole .cadence).enter .idle

/-- CADENCE_EXPIRY. -/
def execCadenceExpiry (s : State) : Host.Outcome State Fault Refusal :=
  .next (s.onRunning fun s => if s.seg.cadence.isSome then s.cadenceLost else s)

/-! ## LIMP_GRACE_EXPIRY (R61) -/

/-- The expiry of the limp grace timer (R61). -/
def State.graceEnds (s : State) : State := (s.abortWhole .cadence).enter .idle

/-- LIMP_GRACE_EXPIRY. -/
def execLimpGraceExpiry (s : State) : Host.Outcome State Fault Refusal :=
  .next (s.onRunning fun s => if s.trv.grace.isSome then s.graceEnds else s)

/-! ## APPROACH_TIMER_EXPIRY, BEAM_LOST_EXPIRY and SETTLE_EXPIRY (R142 to R144) -/

/-- The expiry of the approach timer (R144). -/
def State.approachTimeout (s : State) : State := (s.enter .idle).raise (.dockFailed .timeout)

/-- APPROACH_TIMER_EXPIRY. -/
def execApproachTimerExpiry (s : State) : Host.Outcome State Fault Refusal :=
  .next (s.onRunning fun s => if s.dock.approach.isSome then s.approachTimeout else s)

/-- The expiry of the beam-lost timer (R142): back to SEEK, the timer stopped. -/
def State.beamTimeout (s : State) : State :=
  ({ s with dock := { s.dock with sub := .seek, beamLost := none } }).raise (.beamLost s.dock.sub)

/-- BEAM_LOST_EXPIRY. -/
def execBeamLostExpiry (s : State) : Host.Outcome State Fault Refusal :=
  .next (s.onRunning fun s => if s.dock.beamLost.isSome then s.beamTimeout else s)

/-- SETTLE_EXPIRY: the robot docks (R143). -/
def execSettleExpiry (s : State) : Host.Outcome State Fault Refusal :=
  .next (s.onRunning fun s => if s.dock.settle.isSome then s.dockNow else s)

/-! ## TELEMETRY_EXPIRY (R171, R189) -/

/-- An unsigned number in a 4-byte field, where it fits it (log entry 11). -/
def carryCount (n : Nat) : List Byte := if n < 2 ^ 32 then carry32 n else bytes32 (Config.unfit32 n)

/-- A segment's progress, in the unit of its kind (R43). -/
def Segment.progress (g : Segment) : Nat :=
  match g.kind with
  | .distance => g.dist
  | .angle => g.turn.natAbs
  | .time => g.elapsed

/-- The tag and the progress of the ACTIVE record, 0 and 0 with the queue empty (R67). -/
def SegmentQueue.activeData (q : SegmentQueue) : List Byte :=
  match q.queue with
  | [] => carry8 0 :: carryCount 0
  | g :: _ => carry8 g.tag :: carryCount g.progress

/-- A TELE frame (R171, R189). -/
def State.teleFrame (s : State) : Frame :=
  { kind := kindTele
    payload := carry32 s.rep.timebase ++ s.pose.data ++
      [carry8 s.trv.state.number, carry8 s.dock.sub.number, carry8 s.seg.queue.length] ++
      s.seg.activeData ++ carry16 s.env.lastBound ++ carry16 s.env.lastD ++ carry16 s.env.left ++
      carry16 s.env.right ++ s.latchBytes }

/-- The expiry of the telemetry timer (R171). -/
def State.telemetry (s : State) : State :=
  let t := s.pushLow s.teleFrame .teleSkip
  { t with rep := { t.rep with tele := t.teleInterval } }

/-- TELEMETRY_EXPIRY. -/
def execTelemetryExpiry (s : State) : Host.Outcome State Fault Refusal :=
  .next (s.onRunning fun s => if s.rep.tele.isSome then s.telemetry else s)

end Sys2Proof.Machine
end

