-- ==== Sys2Proof/Machine/Queries.lean ====
section
/-! DEFINITION. The eight QUERY subjects and the layouts of their replies (R21, R22, R66, R139, R161, R174, R183, R184, R188). -/

namespace Sys2Proof.Machine

/-! ## The frame of a QUERY (R183) -/

/-- The payload of a QUERY: its request number, its subject, its arguments. -/
def queryPayload (req : Byte) (subject : Nat) (args : List Byte) : List Byte :=
  req :: carry8 subject :: args

/-- An OK reply: the subject, then the content. -/
def queryOk (subject : Nat) (content : List Byte) : Reply := ⟨.ok, carry8 subject :: content⟩

/-- A RANGE reply carries the subject alone. -/
def queryRange (subject : Nat) : Reply := ⟨.range, [carry8 subject]⟩

/-! ## STATUS (R184) -/

/-- The status record (R184, R188; log entry 27). -/
def State.statusData (s : State) : List Byte :=
  [carry8 s.trv.state.number, carry8 s.dock.sub.number, carryFlag s.trv.yield] ++ s.pose.data ++
  [carry8 s.seg.queue.length] ++ s.latchBytes ++
  [carry8 s.rep.cause.number, carry8 s.store.number] ++ carry16 s.store.list.length ++
  [carry8 (s.drv.fault.elim 0 FaultKind.number), carry8 s.drv.faultCode,
   carryFlag s.drv.guard.isSome, carry8 s.cadenceState]

/-- The port answers QUERY STATUS. -/
def statusAct (s : State) : State × Reply := (s, queryOk 0 s.statusData)

/-- QUERY_STATUS. -/
def execQueryStatus (req : Byte) (args : List Byte) (s : State) : Host.Outcome State Fault Refusal :=
  .next (s.takeRequest .query (queryPayload req 0 args) statusAct)

/-! ## SEGMENTS (R66) -/

/-- A turn sum in its signed 4-byte field, where it fits it (log entry 11). -/
def carrySum (n : Int) : List Byte :=
  if -2 ^ 31 ≤ n ∧ n < 2 ^ 31 then carry32 n else bytes32 (Config.unfit32 n)

/-- The flags of a record: bit 0 ACTIVE, bit 1 clamped at entry, bit 2 side brush, bits 3 and 4 main
brush, bits 5 and 6 extent kind (R188). -/
def Segment.flags (g : Segment) : Nat :=
  (if g.state = .active then 1 else 0) + (if g.clamped then 2 else 0) + (if g.side then 4 else 0) +
    8 * g.brush.number + 32 * g.kind.number

/-- The 20 bytes of a record (R188). -/
def Segment.data (g : Segment) : List Byte :=
  [carry8 g.tag, carry8 g.flags] ++ carry16 g.v ++ carry16 g.w ++ carry16 g.extent ++
    carryCount g.dist ++ carrySum g.turn ++ carry16 (min g.elapsed 65535) ++ carry16 g.held

/-- The back-off's fields: 0 in each while none is running (R66). -/
def backoffData : Option Backoff → List Byte
  | none => [0, 0] ++ carry16 0 ++ carryCount 0 ++ carry16 0
  | some b =>
    [1, carry8 b.reason.number] ++ carry16 b.distance ++ carryCount b.progress ++ carry16 b.held

/-- The last back-off outcome and its reason (R66). -/
def outcomeData : Option (BackoffOutcome × BackoffReason) → List Byte
  | none => [0, 0]
  | some (o, r) => [carry8 o.number, carry8 r.number]

/-- The last beat: 0, 1, or 2 for none (R66). -/
def beatNumber : Option Bool → Nat
  | none => 2
  | some b => if b then 1 else 0

/-- The time left on the cadence timer or the limp grace timer, whichever runs (R66). -/
def State.timeLeft (s : State) : Nat :=
  match s.seg.cadence, s.trv.grace with
  | some n, _ => n
  | none, some n => n
  | none, none => 0

/-- The content of QUERY SEGMENTS (R66, R188). -/
def State.segmentsData (s : State) : List Byte :=
  [carry8 s.trv.state.number, carry8 (beatNumber s.seg.lastBeat), carry8 s.cadenceState] ++
    carry16 s.timeLeft ++ [carry8 s.seg.queue.length] ++ backoffData s.trv.backoff ++
    outcomeData s.trv.outcome ++ s.seg.queue.flatMap Segment.data

/-- The Segment Queue answers QUERY SEGMENTS. -/
def segmentsAct (s : State) : State × Reply := (s, queryOk 1 s.segmentsData)

/-- QUERY_SEGMENTS. -/
def execQuerySegments (req : Byte) (args : List Byte) (s : State) : Host.Outcome State Fault Refusal :=
  .next (s.takeRequest .query (queryPayload req 1 args) segmentsAct)

/-! ## TILES (R21) -/

/-- The rectangle is refused (R21). -/
def Rect.refused (r : Rect) : Bool :=
  decide (r.tx1 < r.tx0) || decide (r.ty1 < r.ty0) ||
  decide (190 < (r.tx1 - r.tx0 + 1) * (r.ty1 - r.ty0 + 1))

/-- The tiles of a rectangle, ty ascending and, within one ty, tx ascending. -/
def Rect.tiles (r : Rect) : List (Nat × Nat) :=
  (span r.ty0 r.ty1).flatMap (fun ty => (span r.tx0 r.tx1).map (fun tx => (tx, ty)))

/-- The rectangle as given. -/
def Rect.data (r : Rect) : List Byte := [carry8 r.tx0, carry8 r.ty0, carry8 r.tx1, carry8 r.ty1]

/-- The tile bytes of a rectangle. -/
def TileMap.tileBytes (m : TileMap) (r : Rect) : List Byte :=
  r.tiles.map (fun tile => m.tiles.read (tileAddress tile.1 tile.2))

/-- The Tile Map answers QUERY TILES. -/
def tilesAct (r : Rect) (s : State) : State × Reply :=
  if r.refused then (s, queryRange 2) else (s, queryOk 2 (r.data ++ s.map.tileBytes r))

/-- QUERY_TILES. -/
def execQueryTiles (req : Byte) (args : List Byte) (s : State) : Host.Outcome State Fault Refusal :=
  .next (s.takeRequest .query (queryPayload req 2 args) (tilesAct (.read args)))

/-! ## CLASS (R22) -/

/-- The Tile Map answers QUERY CLASS. -/
def classesAct (s : State) : State × Reply :=
  (s, queryOk 3 (s.map.classes.toList.flatMap ClassRecord.data))

/-- QUERY_CLASS. -/
def execQueryClass (req : Byte) (args : List Byte) (s : State) : Host.Outcome State Fault Refusal :=
  .next (s.takeRequest .query (queryPayload req 3 args) classesAct)

/-! ## BEACON (R139) -/

/-- An entry of the Beacon Table as replies carry it. -/
def BeaconEntry.data (e : BeaconEntry) : List Byte := carry16 e.v ++ carry16 e.w

/-- The Dock Approach Unit answers QUERY BEACON. -/
def beaconsAct (s : State) : State × Reply :=
  (s, queryOk 4 (s.dock.beacon.toList.flatMap BeaconEntry.data))

/-- QUERY_BEACON. -/
def execQueryBeacon (req : Byte) (args : List Byte) (s : State) : Host.Outcome State Fault Refusal :=
  .next (s.takeRequest .query (queryPayload req 4 args) beaconsAct)

/-! ## CONFIG (R183) -/

/-- The port answers QUERY CONFIG. -/
def parameterAct (id : Byte) (s : State) : State × Reply :=
  match Param.ofId id with
  | none => (s, queryRange 5)
  | some p => (s, queryOk 5 (id :: carry32 (s.param p)))

/-- QUERY_CONFIG. -/
def execQueryConfig (req : Byte) (args : List Byte) (s : State) : Host.Outcome State Fault Refusal :=
  .next (s.takeRequest .query (queryPayload req 5 args) (parameterAct (byteAt args 0)))

/-! ## PAGES (R161) -/

/-- A page index, or none as 0xFFFF. -/
def pageData (p : Option Page) : List Byte := carry16 (p.elim 0xFFFF (fun q => (q.val : Int)))

/-- The failed step, or 3 for NONE. -/
def failedStepNumber (f : Option FailStep) : Nat := f.elim 3 failStepNumber

/-- The byte of a page: bits 0 and 1 its slot state, bit 2 dirty, bit 3 listed. -/
def State.pageByte (s : State) (p : Page) : Byte :=
  carry8 (s.store.slots[p].number + (if s.map.dirty[p] then 4 else 0) +
    (if p ∈ s.store.list then 8 else 0))

/-- The bytes of the 128 pages from `lo` on. -/
def State.pageBytesFrom (s : State) (lo : Nat) : List Byte :=
  ((List.finRange 256).filter (fun p => decide (lo ≤ p.val) && decide (p.val < lo + 128))).map s.pageByte

/-- The part of a PAGES reply. -/
def State.pagesPart (s : State) : Nat → List Byte
  | 0 => s.pageBytesFrom 0
  | 1 => s.pageBytesFrom 128
  | 2 => (s.store.list.take 128).map (fun p => carry8 p.val)
  | _ => (s.store.list.drop 128).map (fun p => carry8 p.val)

/-- The content every PAGES reply carries first. -/
def State.pagesHead (s : State) : List Byte :=
  carry8 s.store.number :: carry16 s.store.list.length ++
    pageData (s.store.current.map CurrentSave.page) ++ pageData s.store.failedPage ++
    [carry8 (failedStepNumber s.store.failedStep)]

/-- The Map Store answers QUERY PAGES. -/
def pagesAct (part : Nat) (s : State) : State × Reply :=
  if 3 < part then (s, queryRange 6) else (s, queryOk 6 (s.pagesHead ++ s.pagesPart part))

/-- QUERY_PAGES. -/
def execQueryPages (req : Byte) (args : List Byte) (s : State) : Host.Outcome State Fault Refusal :=
  .next (s.takeRequest .query (queryPayload req 6 args) (pagesAct (byteAt args 0).toNat))

/-! ## COUNTERS (R174) -/

/-- The twelve counters in position order. -/
def State.countersData (s : State) : List Byte := s.rep.counters.toList.flatMap (fun n => carry16 (n : Int))

/-- The Report Unit answers QUERY COUNTERS. -/
def countersAct (clear : Nat) (s : State) : State × Reply :=
  if 1 < clear then (s, queryRange 7)
  else
    (if clear = 1 then { s with rep := { s.rep with counters := Vector.replicate 12 0 } } else s,
     queryOk 7 s.countersData)

/-- QUERY_COUNTERS. -/
def execQueryCounters (req : Byte) (args : List Byte) (s : State) : Host.Outcome State Fault Refusal :=
  .next (s.takeRequest .query (queryPayload req 7 args) (countersAct (byteAt args 0).toNat))

end Sys2Proof.Machine
end

