-- ==== Sys2Proof/Machine/Links.lean ====
section
/-! DEFINITION. The lines: SYNC_FOUND, FRAME_DISCARD, INTER_BYTE_TIMEOUT, WRONG_KIND_FRAME, UNKNOWN_KIND and DEPARTURE (chapter 10). -/

namespace Sys2Proof.Machine

/-! ## Any intact frame (R179, R180) -/

/-- The owner's handling of a QUERY, by its subject (R183); a payload that names no subject is answered
by the port. -/
def queryOwner (payload : List Byte) : State → State × Reply :=
  let args := payload.drop 2
  match (payload.getD 1 0).toNat with
  | 0 => statusAct
  | 1 => segmentsAct
  | 2 => tilesAct (.read args)
  | 3 => classesAct
  | 4 => beaconsAct
  | 5 => parameterAct (byteAt args 0)
  | 6 => pagesAct (byteAt args 0).toNat
  | 7 => countersAct (byteAt args 0).toNat
  | _ => fun s => (s, ⟨.range, []⟩)

/-- The owner's handling of a request (the table of owners under R180); RESET has the port's own
(`State.takeReset`). -/
def owner (payload : List Byte) : NKind → State → State × Reply
  | .move => moveAct (.read payload)
  | .keep => keepAct (byteAt payload 1).toNat
  | .resume => resumeAct
  | .dock => dockAct
  | .undock => undockAct
  | .pose => poseAct (.read payload)
  | .tileFill => tileFillAct (.read payload)
  | .tileRun => tileRunAct (.read payload)
  | .classRecord => classAct (.read payload)
  | .beacon => beaconAct (.read payload)
  | .config => configAct (byteAt payload 1) (signed32At payload 2)
  | .mask => maskAct (byteAt payload 1) (byteAt payload 2).toNat
  | .ack => ackAct (byteAt payload 2 ++ byteAt payload 1)
  | .save => saveAct (byteAt payload 1).toNat (byteAt payload 2).toFin
  | .storeClear => storeClearAct (byteAt payload 1).toNat
  | .query => queryOwner payload
  | .reset => fun s => (s, ⟨.ok, []⟩)

/-- The N-link port takes an intact frame of any kind (R180). -/
def State.takeNLink (kind : Byte) (payload : List Byte) (s : State) : State :=
  match NKind.ofByte kind with
  | none => s.takeUnknown kind payload
  | some .reset => s.takeReset payload
  | some k => s.takeRequest k payload (owner payload k)

/-- UNKNOWN_KIND. A kind or a QUERY that another row names is handled as that row's (log entry 17). -/
def execUnknownKind (kind : Byte) (payload : List Byte) (s : State) : Host.Outcome State Fault Refusal :=
  .next (s.takeNLink kind payload)

/-- An intact frame on a link, to its port. -/
def State.takeFrame (link : Link) (kind : Byte) (payload : List Byte) (s : State) : State :=
  match link with
  | .n => s.takeNLink kind payload
  | .d => s.takeDLink kind payload
  | .s => s.takeSLink kind payload

/-- WRONG_KIND_FRAME: an intact frame that the D-link or S-link port discards and counts (R179). -/
def execWrongKindFrame (link : Link) (kind : Byte) (payload : List Byte) (s : State) :
    Host.Outcome State Fault Refusal :=
  .next (s.takeFrame link kind payload)

/-! ## Receivers (R178) -/

/-- A link's receiver. -/
def LinkPorts.receiver (p : LinkPorts) : Link → Receiver
  | .n => p.rxN | .d => p.rxD | .s => p.rxS

/-- A link's receiver replaced. -/
def State.setReceiver (link : Link) (r : Receiver) (s : State) : State :=
  match link with
  | .n => { s with port := { s.port with rxN := r } }
  | .d => { s with port := { s.port with rxD := r } }
  | .s => { s with port := { s.port with rxS := r } }

/-- A discarded frame: the link's check counter rises, and the receiver hunts through the bytes received
after its SYNC (R178). A byte in error is not among them (DESIGN CHOICE, log entry 29). -/
def State.discardFrame (link : Link) (received : List Byte) (s : State) : State :=
  (s.setReceiver link (.hunt received)).count (checkCounter link) 1

/-- FRAME_DISCARD: in a frame, the bytes received are what was scanned again and what is new. Bytes that
make no frame to discard leave the part as it is (log entry 15). The byte in error that `byteError` stands for
is none of `bytes`: it is not scanned again, and it does not by itself discard the frame the rescan finds, on
which R178 is silent (DESIGN CHOICE, log entry 29). -/
def execFrameDiscard (link : Link) (bytes : List Byte) (byteError : Bool) (s : State) :
    Host.Outcome State Fault Refusal :=
  .next (s.onRunning fun s =>
    match s.port.receiver link with
    | .hunting => s
    | .inFrame got =>
      if discards (got ++ bytes) byteError then s.discardFrame link (got ++ bytes) else s)

/-- INTER_BYTE_TIMEOUT: more than 1 ms passed inside a frame that is not yet whole. -/
def execInterByteTimeout (link : Link) (bytes : List Byte) (s : State) :
    Host.Outcome State Fault Refusal :=
  .next (s.onRunning fun s =>
    match s.port.receiver link with
    | .hunting => s
    | .inFrame got =>
      if incomplete (got ++ bytes) then s.discardFrame link (got ++ bytes) else s)

/-- SYNC_FOUND: a hunting receiver reads 0xC5 and is in a frame. -/
def execSyncFound (link : Link) (s : State) : Host.Outcome State Fault Refusal :=
  .next (s.onRunning fun s =>
    match s.port.receiver link with
    | .hunting => s.setReceiver link (.inFrame [])
    | .inFrame _ => s)

/-! ## DEPARTURE (R166, R181) -/

/-- The head of the output queue has left, its last byte sent. -/
def State.depart (f : Frame) (rest : List Frame) (s : State) : State :=
  ({ s with port := { s.port with out := rest, nWire := f.wire } }).release

/-- DEPARTURE. -/
def execDeparture (s : State) : Host.Outcome State Fault Refusal :=
  .next (s.onRunning fun s =>
    match s.port.out with
    | [] => s
    | f :: rest => s.depart f rest)

end Sys2Proof.Machine
end

