-- ==== Sys2Proof/Machine/Power.lean ====
section
/-! DEFINITION. Supply, RESET_N and start-up: POWER_ON_RESET, PIN_RESET, END_OF_START_UP and POWER_LOSS. -/

namespace Sys2Proof.Machine

/-- POWER_ON_RESET: supply is applied, the NRATE pins being at the levels given; `reach` is how far a
running save had got. -/
def execPowerOnReset (nrate1 nrate0 : Bool) (reach : SaveReach) (s : State) :
    Host.Outcome State Fault Refusal :=
  .next (s.hardReset .power (.ofPins nrate1 nrate0) reach)

/-- PIN_RESET: RESET_N is driven low and released. A part without supply takes no pin reset
(log entry 18). -/
def execPinReset (nrate1 nrate0 : Bool) (reach : SaveReach) (s : State) :
    Host.Outcome State Fault Refusal :=
  .next (if s.phase = .off then s else s.hardReset .pin (.ofPins nrate1 nrate0) reach)

/-- The number of TORN slots. -/
def MapStore.tornSlots (st : MapStore) : Nat := st.slots.toList.count .torn

/-- The TORN latch and MAP TORN_FOUND, where the load found a TORN slot (R160). -/
def State.reportTorn (s : State) : State :=
  if s.store.tornSlots = 0 then s
  else (s.setLatch .torn).raise (.tornFound s.store.tornSlots)

/-- Start-up ends: the timebase, the period, sensor-loss and telemetry timers start, the receivers hunt,
STOP_N goes high, SYSTEM START is raised (R108, R115, R127, R160, R170, R171, R173, R178). -/
def State.startUpEnds (s : State) : State :=
  let t := { s with
    phase := .running
    port := { s.port with rxN := .hunting, rxD := .hunting, rxS := .hunting }
    haz := { s.haz with loss := some (s.paramNat .senseTimeout) }
    drv := { s.drv with period := some ⟨10, 0⟩, stopN := true }
    rep := { s.rep with timebase := 0, tele := s.teleInterval } }
  (t.raise (.start s.rep.cause)).reportTorn

/-- END_OF_START_UP. -/
def execEndOfStartUp (s : State) : Host.Outcome State Fault Refusal :=
  .next (if s.phase = .startUp then s.startUpEnds else s)

/-- POWER_LOSS: a running save is cut at once (R150); STOP_N without supply is a free value
(log entry 10). -/
def execPowerLoss (reach : SaveReach) (s : State) : Host.Outcome State Fault Refusal :=
  .next (if s.phase = .off then s
    else { s with
      phase := .off
      store := s.store.cut reach
      drv := { s.drv with stopN := Config.stopNUnpowered } })

end Sys2Proof.Machine
end

