-- ==== Sys2Proof/Machine/Saving.lean ====
section
/-! DEFINITION. The two ends of a save: COMPLETION and VERIFY_FAILURE (chapter 8). -/

namespace Sys2Proof.Machine

/-! ## COMPLETION (R155) -/

/-- A slot saved whole: both marks and the program buffer (R150). -/
def savedSlot (buffer : Memory) : Slot := ⟨.written, .written, buffer⟩

/-- The current save completes (R155). -/
def State.saveCompletes (c : CurrentSave) (s : State) : State :=
  let t := { s with store := { s.store with
    slots := s.store.slots.set c.page .valid
    medium := s.store.medium.put c.page (savedSlot c.buffer) } }
  let t := t.raise (.pageSaved c.page)
  let t := { t with store := { t.store with current := none } }
  if t.store.list = [] then t.raise .listDone else t.startSave

/-- COMPLETION. -/
def execCompletion (s : State) : Host.Outcome State Fault Refusal :=
  .next (s.onRunning fun s =>
    match s.store.current with
    | none => s
    | some c => s.saveCompletes c)

/-! ## VERIFY_FAILURE (R156) -/

/-- What a failed save leaves in its slot: the begun mark, and no complete mark after ERASE and PROGRAM (R150,
R156). The bytes it leaves there, and the mark that failed at MARK, are the model's choice (log entry 20). -/
def failedSlot (buffer : Memory) : FailStep → Slot
  | .erase => ⟨.written, .absent, []⟩
  | .program => ⟨.written, .absent, []⟩
  | .mark => ⟨.written, .partly, buffer⟩

/-- The current save fails at a step (R156). -/
def State.saveFails (step : FailStep) (c : CurrentSave) (s : State) : State :=
  let t := { s with
    store := { s.store with
      slots := s.store.slots.set c.page .torn
      medium := s.store.medium.put c.page (failedSlot c.buffer step)
      failedPage := some c.page, failedStep := some step, current := none, error := true }
    map := { s.map with dirty := s.map.dirty.set c.page true } }
  t.raise (.storeError c.page step)

/-- VERIFY_FAILURE. -/
def execVerifyFailure (step : FailStep) (s : State) : Host.Outcome State Fault Refusal :=
  .next (s.onRunning fun s =>
    match s.store.current with
    | none => s
    | some c => s.saveFails step c)

end Sys2Proof.Machine
end

