-- ==== Sys2Proof/Machine/Dispatch.lean ====
section
/-! DEFINITION. Each command's meaning: one arm per constructor of Instr. -/

namespace Sys2Proof.Machine

-- What a command does to everything but the queue of waiting commands.
def exec (i : Instr) (s : State) : Host.Outcome State Fault Refusal :=
  match i with
  | .powerOnReset nrate1 nrate0 reach => Sys2Proof.Machine.execPowerOnReset nrate1 nrate0 reach s
  | .pinReset nrate1 nrate0 reach => Sys2Proof.Machine.execPinReset nrate1 nrate0 reach s
  | .endOfStartUp => Sys2Proof.Machine.execEndOfStartUp s
  | .move payload => Sys2Proof.Machine.execMove payload s
  | .keep payload => Sys2Proof.Machine.execKeep payload s
  | .resume payload => Sys2Proof.Machine.execResume payload s
  | .dock payload => Sys2Proof.Machine.execDock payload s
  | .undock payload => Sys2Proof.Machine.execUndock payload s
  | .pose payload => Sys2Proof.Machine.execPose payload s
  | .tileFill payload => Sys2Proof.Machine.execTileFill payload s
  | .tileRun payload => Sys2Proof.Machine.execTileRun payload s
  | .classRecord payload => Sys2Proof.Machine.execClassRecord payload s
  | .beacon payload => Sys2Proof.Machine.execBeacon payload s
  | .config payload => Sys2Proof.Machine.execConfig payload s
  | .mask payload => Sys2Proof.Machine.execMask payload s
  | .ack payload => Sys2Proof.Machine.execAck payload s
  | .save payload => Sys2Proof.Machine.execSave payload s
  | .storeClear payload => Sys2Proof.Machine.execStoreClear payload s
  | .queryStatus req args => Sys2Proof.Machine.execQueryStatus req args s
  | .querySegments req args => Sys2Proof.Machine.execQuerySegments req args s
  | .queryTiles req args => Sys2Proof.Machine.execQueryTiles req args s
  | .queryClass req args => Sys2Proof.Machine.execQueryClass req args s
  | .queryBeacon req args => Sys2Proof.Machine.execQueryBeacon req args s
  | .queryConfig req args => Sys2Proof.Machine.execQueryConfig req args s
  | .queryPages req args => Sys2Proof.Machine.execQueryPages req args s
  | .queryCounters req args => Sys2Proof.Machine.execQueryCounters req args s
  | .reset payload => Sys2Proof.Machine.execReset payload s
  | .unknownKind kind payload => Sys2Proof.Machine.execUnknownKind kind payload s
  | .frameDiscard link bytes byteError => Sys2Proof.Machine.execFrameDiscard link bytes byteError s
  | .interByteTimeout link bytes => Sys2Proof.Machine.execInterByteTimeout link bytes s
  | .wrongKindFrame link kind payload => Sys2Proof.Machine.execWrongKindFrame link kind payload s
  | .odom payload => Sys2Proof.Machine.execOdom payload s
  | .sense payload => Sys2Proof.Machine.execSense payload s
  | .drivePeriod order => Sys2Proof.Machine.execDrivePeriod order s
  | .responseTimerExpiry => Sys2Proof.Machine.execResponseTimerExpiry s
  | .guardTimerExpiry => Sys2Proof.Machine.execGuardTimerExpiry s
  | .cadenceExpiry => Sys2Proof.Machine.execCadenceExpiry s
  | .limpGraceExpiry => Sys2Proof.Machine.execLimpGraceExpiry s
  | .sensorLossExpiry => Sys2Proof.Machine.execSensorLossExpiry s
  | .approachTimerExpiry => Sys2Proof.Machine.execApproachTimerExpiry s
  | .beamLostExpiry => Sys2Proof.Machine.execBeamLostExpiry s
  | .settleExpiry => Sys2Proof.Machine.execSettleExpiry s
  | .telemetryExpiry => Sys2Proof.Machine.execTelemetryExpiry s
  | .completion => Sys2Proof.Machine.execCompletion s
  | .verifyFailure step => Sys2Proof.Machine.execVerifyFailure step s
  | .departure => Sys2Proof.Machine.execDeparture s
  | .powerLoss reach => Sys2Proof.Machine.execPowerLoss reach s
  | .syncFound link => Sys2Proof.Machine.execSyncFound link s

end Sys2Proof.Machine
end

