-- ==== Sys2Proof/Safety.lean ====
section
/-! DEFINITION. What the spec says always holds of the part, block by block, and the words the statements use. -/

namespace Sys2Proof.Machine

/-! ## Tile Map and Map Store: memories (R2, R4, R150, R159) -/

/-- A memory in its canonical form, of addresses below `size`. -/
abbrev Memory.Within (m : Memory) (size : Nat) : Prop := m.wf = true ∧ ∀ e ∈ m, e.1 < size

/-- The tiles: 65,536 of them, every record well-formed (R4). -/
abbrev TileMap.Ok (m : TileMap) : Prop := m.tiles.Within 65536 ∧ ∀ e ∈ m.tiles, tileRecordOk e.2 = true

/-- The medium: 256 slots, 256 bytes each. -/
abbrev Medium.Ok (m : Medium) : Prop :=
  tableWfFrom Slot.blank 0 m = true ∧ ∀ e ∈ m, e.1 < 256 ∧ e.2.data.Within 256

/-- The tiles, the medium and the program buffer are in their canonical forms. -/
abbrev State.MemoryOk (s : State) : Prop :=
  s.map.Ok ∧ s.store.medium.Ok ∧ ∀ c ∈ s.store.current, c.buffer.Within 256

/-! ## Tables and parameters (R6, R7, R138, R182) -/

/-- Every parameter lies in its range, REST_PERIOD on a multiple of 10 (R182). -/
abbrev State.ParamsOk (s : State) : Prop :=
  (∀ r ∈ paramTable, r.lo ≤ s.param r.param ∧ s.param r.param ≤ r.hi) ∧ s.param .restPeriod % 10 = 0

/-- The Class Table: fields in their ranges, CLIFF and DOCK blocking (R6, R7). -/
abbrev TileMap.ClassesOk (m : TileMap) : Prop :=
  (∀ r ∈ m.classes.toList, r.cap ≤ 700 ∧ r.cliff ≤ 1023) ∧
  (m.record 6).blocks = true ∧ (m.record 8).blocks = true

/-- The Beacon Table's entries in their ranges (R138). -/
abbrev DockUnit.BeaconOk (d : DockUnit) : Prop :=
  ∀ e ∈ d.beacon.toList, -100 ≤ e.v ∧ e.v ≤ 150 ∧ -1500 ≤ e.w ∧ e.w ≤ 1500

/-- The tables software loads hold only values their rules allow. -/
abbrev State.TablesOk (s : State) : Prop := s.ParamsOk ∧ s.map.ClassesOk ∧ s.dock.BeaconOk

/-! ## Pose (R24) -/

/-- The pose lies on the map, its heading is one of 65,536, and the stall counts lie in 0..49 (R24). -/
abbrev State.PoseOk (s : State) : Prop :=
  -12800000 ≤ s.pose.x ∧ s.pose.x ≤ 12799999 ∧ -12800000 ≤ s.pose.y ∧ s.pose.y ≤ 12799999 ∧
  s.pose.h < 65536 ∧ s.pose.stallL ≤ 49 ∧ s.pose.stallR ≤ 49

/-! ## Segments and travel states (R43, R44, R57, R59, R62, R63, R131) -/

/-- A record's values lie in the ranges of R43. -/
abbrev Segment.Ok (g : Segment) : Prop :=
  -400 ≤ g.v ∧ g.v ≤ 600 ∧ -3000 ≤ g.w ∧ g.w ≤ 3000 ∧ 1 ≤ g.extent ∧ g.extent ≤ 65535 ∧
  (g.kind ≠ .angle → g.extent ≤ 10000) ∧ (g.kind = .time → 10 ≤ g.extent) ∧ g.tag ≤ 255

/-- A QUEUED record: nothing of it has been played (R44). -/
abbrev Segment.Waiting (g : Segment) : Prop :=
  g.state = .queued ∧ g.dist = 0 ∧ g.turn = 0 ∧ g.elapsed = 0 ∧ g.held = 0

/-- At most 8 records; the head is ACTIVE and every record behind it is QUEUED (R44). -/
abbrev SegmentQueue.Ok (q : SegmentQueue) : Prop :=
  q.queue.length ≤ 8 ∧ (∀ g ∈ q.queue, g.Ok) ∧ (∀ g ∈ q.queue.head?, g.state = .active) ∧
  ∀ g ∈ q.queue.tail, g.Waiting

/-- The queue holds records exactly in CRUISE and LIMP; a yield is pending only in CRUISE (R62); the
cadence timer runs exactly while its three conditions hold (R57), the grace timer exactly in LIMP
(R59), a back-off exactly in BACKOFF (R63). -/
abbrev State.TravelOk (s : State) : Prop :=
  (s.seg.queue ≠ [] ↔ s.trv.state = .cruise ∨ s.trv.state = .limp) ∧
  (s.trv.yield = true → s.trv.state = .cruise) ∧
  (s.seg.cadence.isSome = true ↔ s.trv.state = .cruise ∧ s.trv.yield = false) ∧
  (s.trv.grace.isSome = true ↔ s.trv.state = .limp) ∧
  (s.trv.backoff.isSome = true ↔ s.trv.state = .backoff)

/-- The substate is other than NONE exactly in APPROACH, and each timer of the approach runs exactly
where its rule says (R131, R142, R143). -/
abbrev State.ApproachOk (s : State) : Prop :=
  (s.dock.sub ≠ .none_ ↔ s.trv.state = .approach) ∧
  (s.dock.approach.isSome = true ↔ s.trv.state = .approach) ∧
  (s.dock.settle.isSome = true ↔ s.dock.sub = .settle) ∧
  (s.dock.beamLost.isSome = true ↔ (s.dock.sub = .align ∨ s.dock.sub = .creep) ∧ s.dock.dark = true)

/-- The travel state and what may run only in some states agree. -/
abbrev State.MotionOk (s : State) : Prop := s.seg.Ok ∧ s.TravelOk ∧ s.ApproachOk

/-! ## Hazard sensing (R97) -/

/-- A gate is SPENT only while its sensor's level is UNSAFE (R97). -/
abbrev CliffSensor.Ok (c : CliffSensor) : Prop := c.gate = .spent → c.level = .unsafe_

abbrev State.GatesOk (s : State) : Prop := s.haz.fl.Ok ∧ s.haz.fr.Ok ∧ s.haz.sl.Ok ∧ s.haz.sr.Ok

/-! ## Drive exchange (R114, R115, R117, R122, R124, R127) -/

/-- STOP_N is low in FAULT, in LOCKED and during start-up and high otherwise (R127); the response timer
runs exactly while an exchange is OUTSTANDING (R114); the guard timer never runs in FAULT or LOCKED
(R122, R124); the period timer runs exactly outside LOCKED (R115); in LOCKED the phase is CLEAR (R125). -/
abbrev State.DriveOk (s : State) : Prop :=
  (s.phase = .startUp → s.drv.stopN = false ∧ s.trv.state = .idle ∧ s.drv.phase = .clear ∧
    s.drv.period = none) ∧
  (s.phase = .running →
    (s.drv.stopN = false ↔ s.trv.state = .fault ∨ s.trv.state = .locked) ∧
    (s.drv.period.isSome = true ↔ s.trv.state ≠ .locked)) ∧
  (s.drv.response.isSome = true ↔ s.drv.phase = .outstanding) ∧
  (s.trv.state = .fault ∨ s.trv.state = .locked → s.drv.guard = none ∧ s.drv.fault.isSome = true) ∧
  (s.trv.state = .locked → s.drv.phase = .clear) ∧
  s.drv.nextTag < 16 ∧ s.drv.exTag < 16 ∧ s.drv.misses ≤ 255 ∧ s.drv.waits ≤ 65535

/-! ## Map Store (R149, R151, R153) -/

/-- No page is listed twice (R151); the error latch and a current save are never held together (R149);
the failed page is held exactly with the latch; while there is supply, an IDLE store has an empty list
(R153). -/
abbrev State.StoreOk (s : State) : Prop :=
  s.store.list.Nodup ∧ (s.store.error = true → s.store.current = none) ∧
  (s.store.failedPage.isSome = true ↔ s.store.error = true) ∧
  (s.phase ≠ .off → s.store.error = false → s.store.current = none → s.store.list = [])

/-! ## Reports (R163, R165, R166, R172, R174, R181) -/

/-- The output queue holds at most 16 frames (R181); while reporting is disabled no class is pending,
and a coalesced count lies between 1 and 255 (R163); an unmasked class is pending only while the queue
is full (R165, R166); counters, forwarding count and timebase lie in their ranges. -/
abbrev State.ReportsOk (s : State) : Prop :=
  s.port.out.length ≤ 16 ∧
  (s.rep.enable = false → ∀ c : Fin 8, s.rep.held[c] = none) ∧
  (∀ c : Fin 8, ∀ r ∈ s.rep.held[c], 1 ≤ r.count ∧ r.count ≤ 255) ∧
  (∀ c : Fin 8, s.rep.masks[c] = false → s.rep.held[c] ≠ none → s.port.out.length = 16) ∧
  (∀ n ∈ s.rep.counters.toList, n ≤ 65535) ∧ s.rep.fwd ≤ 49 ∧ s.rep.timebase < 2 ^ 32

/-! ## The envelope record (R69) -/

abbrev State.EnvelopeOk (s : State) : Prop :=
  -600 ≤ s.env.p ∧ s.env.p ≤ 600 ∧ 0 ≤ s.env.lastD ∧ s.env.lastD ≤ 1280 ∧
  0 ≤ s.env.lastBound ∧ s.env.lastBound ≤ 2244 ∧
  -700 ≤ s.env.left ∧ s.env.left ≤ 700 ∧ -700 ≤ s.env.right ∧ s.env.right ≤ 700

/-! ## All of them -/

/-- Every invariant of the part. -/
structure State.Inv (s : State) : Prop where
  memory : s.MemoryOk
  tables : s.TablesOk
  pose : s.PoseOk
  motion : s.MotionOk
  gates : s.GatesOk
  drive : s.DriveOk
  store : s.StoreOk
  reports : s.ReportsOk
  envelope : s.EnvelopeOk

/-! ## Words of the statements: requests -/

/-- The port hands a request to its owner: the part runs, is not LOCKED, and the output queue has room
(R180). -/
abbrev State.Takes (s : State) : Prop := s.phase = .running ∧ s.trv.state ≠ .locked ∧ s.queued < 16

/-- The port serves a QUERY: as for any request, but in LOCKED too (R183). -/
abbrev State.Serves (s : State) : Prop := s.phase = .running ∧ s.queued < 16

/-- The port has taken a request frame of `n` payload bytes and its reply has joined the output queue
(R178, R180, R188). -/
def State.replied (s : State) (n : Nat) (req : Byte) (k : NKind) (code : ReplyCode) (data : List Byte) :
    State :=
  (s.frameTaken .n n).pushUp { kind := kindReply, payload := req :: k.code :: code.byte :: data }

/-- A beat that passes the beat check (R47). -/
abbrev SegmentQueue.FreshBeat (q : SegmentQueue) (beat : Nat) : Prop :=
  beat ≤ 1 ∧ q.lastBeat ≠ some (decide (beat = 1))

/-- A MOVE of a meaningful segment (R49). -/
abbrev MoveFields.Meaningful (f : MoveFields) : Prop :=
  f.placement ≤ 1 ∧ f.kind ≤ 2 ∧ f.extent ≠ 0 ∧ (f.kind ≠ 1 → f.extent ≤ 10000) ∧
  (f.kind = 2 → 10 ≤ f.extent) ∧ (f.kind = 0 → f.v ≠ 0) ∧ (f.kind = 1 → f.w ≠ 0)

/-- Some field of a MOVE lies outside its range (R49). -/
abbrev MoveFields.OutOfRange (f : MoveFields) : Prop :=
  f.v < -400 ∨ 600 < f.v ∨ f.w < -3000 ∨ 3000 < f.w ∨ 3 < f.brush ∨ 1 < f.side

/-- The record a MOVE makes: its values clamped, its progress all 0 (R43, R49). -/
def MoveFields.record (f : MoveFields) (state : SegState) : Segment :=
  { tag := f.tag, v := max (-400) (min 600 f.v), w := max (-3000) (min 3000 f.w)
    kind := if f.kind = 0 then .distance else if f.kind = 1 then .angle else .time
    extent := f.extent
    brush := if f.brush = 0 then .off else if f.brush = 1 then .low else if f.brush = 2 then .normal
      else .high
    side := decide (f.side ≠ 0), state := state, dist := 0, turn := 0, elapsed := 0, held := 0
    clamped := decide f.OutOfRange }

/-- The command of a request of each kind but QUERY. -/
def requestOf (k : NKind) (payload : List Byte) : Instr :=
  match k with
  | .move => .move payload | .keep => .keep payload | .resume => .resume payload
  | .dock => .dock payload | .undock => .undock payload | .pose => .pose payload
  | .tileFill => .tileFill payload | .tileRun => .tileRun payload
  | .classRecord => .classRecord payload | .beacon => .beacon payload | .config => .config payload
  | .mask => .mask payload | .ack => .ack payload | .save => .save payload
  | .storeClear => .storeClear payload | .query => .unknownKind NKind.query.code payload
  | .reset => .reset payload

/-- The command of a QUERY with a subject: the row that names it, or UNKNOWN_KIND for a subject of no row. -/
def queryOf (req subject : Byte) (args : List Byte) : Instr :=
  match subject.toNat with
  | 0 => .queryStatus req args | 1 => .querySegments req args | 2 => .queryTiles req args
  | 3 => .queryClass req args | 4 => .queryBeacon req args | 5 => .queryConfig req args
  | 6 => .queryPages req args | 7 => .queryCounters req args
  | _ => .unknownKind NKind.query.code (req :: subject :: args)

/-- The payload has a length its kind's layout allows (R187); a QUERY's length depends on its subject and
stands with each QUERY. -/
def layoutAllows (k : NKind) (p : List Byte) : Bool :=
  match k with
  | .move => p.length == 13 | .keep => p.length == 2 | .resume => p.length == 1
  | .dock => p.length == 1 | .undock => p.length == 1 | .pose => p.length == 12
  | .tileFill => p.length == 7
  | .tileRun => decide (5 ≤ p.length ∧ p.length ≤ 195 ∧ p.length = 5 + (byteAt p 4).toNat)
  | .classRecord => p.length == 9 | .beacon => p.length == 7 | .config => p.length == 6
  | .mask => p.length == 3 | .ack => p.length == 3 | .save => p.length == 3
  | .storeClear => p.length == 2 | .query => false | .reset => p.length == 1

/-- The events of an abort: one SEGMENT ABORTED per record that leaves, in order (R45). -/
def abortEvents (left : List Segment) (reason : AbortReason) : List Event :=
  left.map (fun g => .segmentAborted g.tag reason)

/-- A beat has passed the check: in LIMP the state becomes CRUISE, the grace timer stops and CADENCE RESTORED
is raised (R60). -/
def State.cadenceRestored (s : State) : State :=
  if s.trv.state = .limp then
    ({ s with trv := { s.trv with state := .cruise, grace := none } } : State).raise .cadenceRestored
  else s

/-- The ACTIVE record `g` has completed, `rest` behind it: SEGMENT DONE is raised and the next record becomes
ACTIVE; behind the last one the state becomes IDLE, or the approach of a pending yield begins (R55, R137). -/
def State.segmentEnded (g : Segment) (rest : List Segment) (s : State) : State :=
  let queue := match rest with
    | [] => []
    | n :: more => { n with state := .active } :: more
  let t := ({ s with seg := { s.seg with queue := queue } } : State).raise (.segmentDone g.tag)
  if rest ≠ [] then t
  else if s.trv.yield then
    ({ t.enter .approach with dock := { s.dock with
      sub := if s.dock.contact then .settle else .seek
      approach := some (1000 * s.paramNat .approachLimit)
      settle := if s.dock.contact then some (s.paramNat .contactSettle) else none
      beamLost := none } } : State).raise .dockGranted
  else t.enter .idle

/-! ## Words of the statements: tiles (R10) -/

/-- A tile write changes a tile of this record (R10). -/
abbrev Changes (old : Byte) (cls : ClassNo) (override : Bool) : Prop :=
  if tileObserved old then override = true else old ≠ loadedTile cls

/-- A tile write counts a tile of this record as protected (R10). -/
abbrev Protects (old : Byte) (override : Bool) : Prop := tileObserved old = true ∧ override = false

/-- The record of tile (tx, ty). -/
def TileMap.tile (m : TileMap) (tx ty : Nat) : Byte := m.tiles.read (tileAddress tx ty)

/-! ## Words of the statements: sensing -/

/-- No sensor takes a cliff edge at this frame: each reading moves its level without one (R99). -/
abbrev State.NoCliffEdge (s : State) (f : SenseFields) (sensor : Sensor) : Prop :=
  ¬((s.haz.sensor sensor).level = .safe ∧ (s.haz.sensor sensor).gate = .armed ∧
    f.reading sensor < s.threshold sensor)

/-- A sensor takes a cliff edge at this frame (R100). -/
abbrev State.CliffEdge (s : State) (f : SenseFields) (sensor : Sensor) : Prop :=
  (s.haz.sensor sensor).level = .safe ∧ (s.haz.sensor sensor).gate = .armed ∧
  f.reading sensor < s.threshold sensor

/-- A sensor's record after its reading of this frame, judged by the pose, the map and the parameters as they
stand in `s` (R98, R99). -/
def State.levelMoved (f : SenseFields) (s : State) (sensor : Sensor) : CliffSensor :=
  let c := s.haz.sensor sensor
  let r := f.reading sensor
  let low := s.threshold sensor
  let release := min (low + s.paramNat .cliffHyst) 1023
  match c.level with
  | .unsafe_ => if release ≤ r then ⟨.safe, .armed⟩ else c
  | _ => if r < low then ⟨.unsafe_, .spent⟩ else ⟨.safe, c.gate⟩

/-- The part after stages 1 to 4 of a frame's handling, but for its edges: the sensor-loss timer restarted, a
gap counted, each cliff level moved by its threshold and release level, the switches recorded (R94, R95, R98,
R99, R104, R106, R108). -/
def State.levelsMoved (f : SenseFields) (s : State) : State :=
  let gap := match s.haz.lastSeq with
    | none => 0
    | some n => if f.seq = n then 0 else (((f.seq : Int) - n - 1) % 256).toNat
  { (s.frameTaken .s 16).count .senseGap gap with haz := {
      fl := s.levelMoved f .fl, fr := s.levelMoved f .fr, sl := s.levelMoved f .sl, sr := s.levelMoved f .sr
      dropL := f.dropL, dropR := f.dropR, bumpL := f.bumpL, bumpR := f.bumpR
      lastSeq := some f.seq, loss := some (s.paramNat .senseTimeout), silent := false } }

/-- A halt: a BRAKE is sent, the state becomes HALTED, every record is aborted, head first, and an approach or a
pending yield ends with DOCK FAILED; what runs only in other states stops (R96). -/
def State.haltTaken (abort : AbortReason) (failure : DockFailure) (s : State) : State :=
  let t : State := { s with
    port := { s.port with dTx := s.port.dTx ++ [{ kind := 0x41, payload := [] }] }
    trv := { s.trv with state := .halted, yield := false, grace := none, backoff := none }
    seg := { s.seg with queue := [], cadence := none }
    dock := { s.dock with sub := .none_, approach := none, beamLost := none, settle := none }
    drv := { s.drv with period :=
      if s.trv.state = .docked then s.drv.period.map (fun i => { i with length := 10 }) else s.drv.period } }
  let t := t.raiseAll (abortEvents s.seg.queue abort)
  if s.trv.state = .approach ∨ s.trv.yield = true then t.raise (.dockFailed failure) else t

/-- An observed mark: the tile becomes CLIFF, OBSERVED, its count 1 or one more than an observed CLIFF tile's, 3
at most; its page becomes dirty and OBSERVED_MARKS rises; with AUTO_SAVE on the page joins the save list, and an
IDLE store starts the save of the list's head (R102, R151, R153). -/
def State.tileMarked (tx ty : Nat) (s : State) : State :=
  let old := s.map.tile tx ty
  let n := if tileObserved old = true ∧ tileClass old = 6 then min (tileCount old + 1) 3 else 1
  let page := tilePage tx ty
  let m : TileMap := { s.map with
    tiles := s.map.tiles.write (tileAddress tx ty) (carry8 (0x16 + 32 * n))
    dirty := s.map.dirty.set page true }
  let t := ({ s with map := m } : State).count .observedMarks 1
  let list := if page ∈ s.store.list then s.store.list else s.store.list ++ [page]
  if s.paramNat .autoSave ≠ 1 then t
  else if s.store.error = true ∨ s.store.current.isSome = true then
    { t with store := { s.store with list := list } }
  else match list with
    | [] => t
    | q :: rest => { t with
        store := { s.store with list := rest, current := some ⟨q, pageBytes m.tiles q⟩ }
        map := { m with dirty := m.dirty.set q false } }

/-- No wheel-drop edge at this frame (R104). -/
abbrev HazardUnit.NoDropEdge (z : HazardUnit) (f : SenseFields) : Prop :=
  (f.dropL = true → z.dropL = true) ∧ (f.dropR = true → z.dropR = true)

/-- No bump edge at this frame (R106). -/
abbrev HazardUnit.NoBumpEdge (z : HazardUnit) (f : SenseFields) : Prop :=
  (f.bumpL = true → z.bumpL = true) ∧ (f.bumpR = true → z.bumpR = true)

end Sys2Proof.Machine
end

