-- ==== Sys2Proof/Certificates/Slice0/Obligations.lean ====
section
/-! DEFINITION. The statements about the model, for the provers. -/

section

open Sys2Proof Sys2Proof.Machine

/-! ## The step -/

/-- A step takes the command at the front of the queue and runs it with the queue's rest. With no command
waiting, one millisecond passes (the model's choice, log entry 2): while the part runs, the timebase rises by 1
and wraps at 2^32 (R173), every running timer counts, and the D-link transmitter sends what it was handed (log
entry 19); otherwise nothing changes. -/
def Obligations.StepRunsFrontCommand : Prop :=
  (∀ (s : State) (c : Instr) (rest : List Instr),
    step { s with pending := c :: rest } = exec c { s with pending := rest }) ∧
  ∀ s : State, s.pending = [] →
    let down := fun (t : Timer) => Option.map (fun n => n - 1) t
    step s = .next (if s.phase = .running then
      { s with
        port := { s.port with
          dTx := []
          dWire := if s.port.dTx = [] then s.port.dWire else s.port.dTx.flatMap Frame.wire }
        seg := { s.seg with cadence := down s.seg.cadence }
        trv := { s.trv with grace := down s.trv.grace }
        haz := { s.haz with loss := down s.haz.loss }
        drv := { s.drv with
          response := down s.drv.response, guard := down s.drv.guard
          period := s.drv.period.map (fun i =>
            { i with passed := if i.passed < i.length then i.passed + 1 else i.passed }) }
        dock := { s.dock with
          approach := down s.dock.approach, beamLost := down s.dock.beamLost
          settle := down s.dock.settle }
        rep := { s.rep with tele := down s.rep.tele, timebase := (s.rep.timebase + 1) % 4294967296 } }
      else s)

/-- Every command ends in a next state, which waits for the same commands. -/
def Obligations.EveryCommandCompletes : Prop :=
  ∀ (c : Instr) (s : State), ∃ t, exec c s = .next t ∧ t.pending = s.pending

/-! ## Invariants -/

/-- Every invariant holds of the part right after a power-on reset; which such part State.reset is, is the model's
choice (log entry 5). -/
def Obligations.InvariantsHoldAtReset : Prop := State.reset.Inv

/-- Every step keeps the tiles, the medium and the program buffer in their canonical forms, and every
tile record well-formed (R4, R159). -/
def Obligations.StepKeepsMemoryCanonical : Prop :=
  ∀ s t : State, s.MemoryOk → step s = .next t → t.MemoryOk

/-- Every step keeps every parameter, class record and beacon entry in its range, and CLIFF and DOCK
blocking (R6, R7, R138, R182). -/
def Obligations.StepKeepsTablesInRange : Prop :=
  ∀ s t : State, s.TablesOk → step s = .next t → t.TablesOk

/-- Every step keeps the pose on the map, the stall counts in 0..49, and the envelope record in its ranges
(R24, R69, R82). -/
def Obligations.StepKeepsPoseAndEnvelopeInRange : Prop :=
  ∀ s t : State, s.TablesOk → s.MotionOk → s.PoseOk → s.EnvelopeOk → step s = .next t →
    t.PoseOk ∧ t.EnvelopeOk

/-- Every step keeps the queue in order, and the queue, the travel state, the approach and the timers in
agreement (R44, R57, R59, R62, R63, R131). -/
def Obligations.StepKeepsTravelStateConsistent : Prop :=
  ∀ s t : State, s.MotionOk → step s = .next t → t.MotionOk

/-- Every step keeps a gate SPENT only while its sensor's level is UNSAFE (R97). -/
def Obligations.StepKeepsGateSpentOnlyWhileUnsafe : Prop :=
  ∀ s t : State, s.GatesOk → step s = .next t → t.GatesOk

/-- Every step keeps STOP_N low exactly in FAULT, in LOCKED and during start-up, and the exchange's
timers running exactly where they may (R114, R115, R122, R124, R127). -/
def Obligations.StepKeepsMotorPowerOffInFault : Prop :=
  ∀ s t : State, s.MotionOk → s.DriveOk → step s = .next t → t.DriveOk

/-- Every step keeps each page at most once in the save list, and the error latch apart from a current
save (R149, R151, R153). -/
def Obligations.StepKeepsSaveListWithoutRepeats : Prop :=
  ∀ s t : State, s.StoreOk → step s = .next t → t.StoreOk

/-- Every step keeps at most 16 frames in the output queue, and every unmasked class from waiting while
there is room (R163, R165, R166, R181). -/
def Obligations.StepKeepsReportsInBounds : Prop :=
  ∀ s t : State, s.TablesOk → s.ReportsOk → step s = .next t → t.ReportsOk

/-! ## Promises over all commands -/

/-- LOCKED is left by a power-on or a pin reset alone, with STOP_N low and no drive period until then
(R124, R125, R127). -/
def Obligations.LockedIsLeftOnlyByHardReset : Prop :=
  ∀ (c : Instr) (s t : State), s.MotionOk → s.DriveOk → s.trv.state = .locked → s.phase = .running →
    exec c s = .next t →
    (∃ n1 n0 reach, c = .powerOnReset n1 n0 reach ∨ c = .pinReset n1 n0 reach) ∨
    (t.trv.state = .locked ∧ t.drv.period = none ∧ t.drv.phase = .clear ∧
      t.pose = { s.pose with quality := t.pose.quality } ∧
      (t.phase = .running → t.drv.stopN = false ∧ t.port.dTx = s.port.dTx))

/-- A counter falls only by a reset of the part or by QUERY COUNTERS with clear, whichever row carries
the query (R174, R175). -/
def Obligations.CountersFallOnlyByClear : Prop :=
  ∀ (c : Instr) (s t : State) (i : Fin 12), s.ReportsOk → exec c s = .next t →
    s.rep.counters[i] ≤ t.rep.counters[i] ∨
    (∃ n1 n0 reach, c = .powerOnReset n1 n0 reach ∨ c = .pinReset n1 n0 reach) ∨
    (∃ req, c = .queryCounters req [1] ∧ t.rep.counters[i] = 0) ∨
    (∃ req, (c = .unknownKind NKind.query.code [req, 7, 1] ∨
      c = .wrongKindFrame .n NKind.query.code [req, 7, 1]) ∧ t.rep.counters[i] = 0)

/-- A tile the part has marked stays marked, with no smaller count, through every command but a reset of
the part and a tile request with override set, whichever row carries it (R10, R11, R102). -/
def Obligations.ObservedTileIsGuarded : Prop :=
  ∀ (c : Instr) (s t : State) (tx ty : Nat), s.MemoryOk → tx < 256 → ty < 256 →
    tileObserved (s.map.tile tx ty) = true → exec c s = .next t →
    (tileObserved (t.map.tile tx ty) = true ∧
      tileCount (s.map.tile tx ty) ≤ tileCount (t.map.tile tx ty)) ∨
    (∃ n1 n0 reach, c = .powerOnReset n1 n0 reach ∨ c = .pinReset n1 n0 reach) ∨
    (∃ p, c = .tileFill p ∧ byteAt p 6 = 1) ∨ (∃ p, c = .tileRun p ∧ byteAt p 3 = 1) ∨
    (∃ k p, (c = .unknownKind k p ∨ c = .wrongKindFrame .n k p) ∧
      (k = NKind.tileFill.code ∧ byteAt p 6 = 1 ∨ k = NKind.tileRun.code ∧ byteAt p 3 = 1))

/-! ## Supply, resets, start-up -/

/-- A power-on reset, and a pin reset of a part with supply, give every block its reset values, whatever
the part was doing; STOP_N is low, the N-link rate is as the pins select, and the medium is what a running
save, cut at once, left (R8, R41, R68, R92, R113, R129, R148, R162, R170, R175, R176, R181), the
defaults of the Class Table, the Beacon Table and the 49 parameters spelled out (R8, R138, R182). A pin reset
without supply does nothing, which is the model's choice (log entry 18), as is that nothing stands on the
output lines and before the D-link transmitter (log entry 19), and that the receivers hunt from the reset on, not
only from the end of start-up (log entry 23). -/
def Obligations.HardResetGivesResetValues : Prop :=
  ∀ (s : State) (n1 n0 : Bool) (reach : SaveReach), ∃ t u,
    exec (.powerOnReset n1 n0 reach) s = .next t ∧
    (s.phase ≠ .off → exec (.pinReset n1 n0 reach) s = .next u) ∧
    (s.phase = .off → exec (.pinReset n1 n0 reach) s = .next s) ∧
    u = { t with rep := { t.rep with cause := .pin } } ∧
    t.phase = .startUp ∧
    t.port = { rate := if n1 then .mbit3 else if n0 then .mbit2 else .mbit1, rxN := .hunting,
               rxD := .hunting, rxS := .hunting, out := [], dTx := [], nWire := [], dWire := [] } ∧
    t.map.classes = defaultClasses ∧ t.map.dirty = Vector.replicate 256 false ∧
    t.pose = { x := 0, y := 0, h := 0, quality := .lost, base := none, stallL := 0, stallR := 0 } ∧
    t.seg = { queue := [], lastBeat := none, cadence := none } ∧
    t.trv = { state := .idle, yield := false, grace := none, backoff := none, outcome := none } ∧
    t.env = { p := 0, lastD := 1280, lastBound := 0, left := 0, right := 0 } ∧
    t.haz = { fl := ⟨.unknown, .armed⟩, fr := ⟨.unknown, .armed⟩, sl := ⟨.unknown, .armed⟩,
              sr := ⟨.unknown, .armed⟩, dropL := false, dropR := false, bumpL := false,
              bumpR := false, lastSeq := none, loss := none, silent := false } ∧
    t.drv.nextTag = 0 ∧ t.drv.phase = .clear ∧ t.drv.response = none ∧ t.drv.period = none ∧
    t.drv.misses = 0 ∧ t.drv.waits = 0 ∧ t.drv.guard = none ∧ t.drv.fault = none ∧
    t.drv.faultCode = 0 ∧ t.drv.stopN = false ∧
    t.dock = { sub := .none_, codeL := .none_, codeR := .none_, contact := false, approach := none,
               beamLost := none, settle := none, beacon := defaultBeacon } ∧
    t.store.list = [] ∧ t.store.current = none ∧ t.store.error = false ∧ t.store.failedPage = none ∧
    t.store.failedStep = none ∧ t.store.medium = (s.store.cut reach).medium ∧
    t.rep.enable = true ∧ t.rep.masks = Vector.replicate 8 false ∧
    t.rep.held = Vector.replicate 8 none ∧ t.rep.latches = 0 ∧
    t.rep.counters = Vector.replicate 12 0 ∧ t.rep.tele = none ∧ t.rep.fwd = 0 ∧
    t.rep.cause = .power ∧ t.params = Params.initial ∧ t.pending = s.pending ∧
    defaultClasses.toList =
      [⟨false, 700, .high, true, 300⟩, ⟨false, 300, .high, true, 300⟩, ⟨false, 200, .off, false, 300⟩,
       ⟨false, 400, .high, true, 120⟩, ⟨false, 150, .high, true, 300⟩, ⟨true, 700, .high, true, 300⟩,
       ⟨true, 700, .high, true, 300⟩, ⟨true, 700, .high, true, 300⟩, ⟨true, 700, .high, true, 300⟩,
       ⟨false, 700, .high, true, 300⟩, ⟨false, 700, .high, true, 300⟩, ⟨false, 700, .high, true, 300⟩,
       ⟨false, 700, .high, true, 300⟩, ⟨false, 700, .high, true, 300⟩, ⟨false, 700, .high, true, 300⟩,
       ⟨false, 700, .high, true, 300⟩] ∧
    defaultBeacon.toList =
      [⟨0, 0⟩, ⟨0, -500⟩, ⟨0, -500⟩, ⟨0, -500⟩, ⟨0, -500⟩, ⟨0, 500⟩, ⟨80, 600⟩, ⟨60, 0⟩, ⟨100, 300⟩,
       ⟨60, 300⟩, ⟨0, 500⟩, ⟨60, 0⟩, ⟨80, -600⟩, ⟨100, -300⟩, ⟨60, -300⟩, ⟨0, 500⟩, ⟨100, 300⟩, ⟨100, -300⟩,
       ⟨150, 0⟩, ⟨60, 0⟩, ⟨0, 500⟩, ⟨60, 300⟩, ⟨60, -300⟩, ⟨60, 0⟩, ⟨0, 0⟩] ∧
    Params.initial.toList =
      [230000, 100, 100, 165, 150, 70, 150, -70, 110, 140, 110, -140, 0, 0, 0, 500, 800, 60, 200, 600,
       200, 250, 150, 100, 2000, 300, 0, 2000, 1, 120, 50, 200, 40, 30, 10, 400, 4, 3, 100, 100, 10, 90,
       3000, 60, 400, 300, 10, 4, 1]

/-- The start-up load classes each slot by its marks and its bytes, and writes the page of a VALID slot
and 256 zero bytes for any other (R23, R159). That the load is whole within the reset's own step is log entry
8. -/
def Obligations.StartUpLoadReadsSlots : Prop :=
  ∀ (s t : State) (n1 n0 : Bool) (reach : SaveReach) (p : Page) (i : Nat), s.MemoryOk → i < 256 →
    exec (.powerOnReset n1 n0 reach) s = .next t →
    let slot := t.store.medium.slot p
    (slot.begun = .absent ∧ slot.complete = .absent → t.store.slots[p] = .blank) ∧
    (slot.begun = .written ∧ slot.complete = .written →
      t.store.slots[p] = if ∀ e ∈ slot.data, tileRecordOk e.2 = true then .valid else .torn) ∧
    (¬(slot.begun = .absent ∧ slot.complete = .absent) →
      ¬(slot.begun = .written ∧ slot.complete = .written) → t.store.slots[p] = .torn) ∧
    t.map.tiles.read (256 * p.val + i) =
      if t.store.slots[p] = .valid then slot.data.read i else 0

/-- A save cut by a reset or a loss of supply leaves its slot as it was before the point R150 names, and
a slot that a start-up load finds TORN after it; every other slot stands (R150, R162). -/
def Obligations.CutSaveLeavesSlotWholeOrTorn : Prop :=
  ∀ (st : MapStore) (c : CurrentSave) (reach : SaveReach) (q : Page),
    st.medium.Ok → st.current = some c →
    let old := st.medium.slot c.page
    let after := (st.cut reach).medium
    (st.cut reach).current = none ∧
    (q ≠ c.page → after.slot q = st.medium.slot q) ∧
    (reach = .beginNotWriting → after.slot c.page = old) ∧
    (reach = .beginWriting ∨ reach = .eraseNotErasing →
      if old.begun = .absent ∧ old.complete = .absent then (after.slot c.page).state = .torn
      else after.slot c.page = old) ∧
    (reach = .erasing ∨ reach = .programming ∨ reach = .marking → (after.slot c.page).state = .torn)

/-- Start-up ends: the timebase and the period, sensor-loss and telemetry timers start, the receivers
hunt, STOP_N goes high, SYSTEM START is raised with the reset cause and then, if the load found TORN
slots, the TORN latch is set and MAP TORN_FOUND raised with their number, 256 carried as 255 (R108, R115,
R127, R160, R170, R171, R173, R178). -/
def Obligations.StartUpEndStartsThePart : Prop :=
  ∀ s : State, s.phase = .startUp →
    let started : State := { s with
      phase := .running
      port := { s.port with rxN := .hunting, rxD := .hunting, rxS := .hunting }
      haz := { s.haz with loss := some (s.param .senseTimeout).toNat }
      drv := { s.drv with period := some { length := 10, passed := 0 }, stopN := true }
      rep := { s.rep with
        timebase := 0
        tele := if (s.param .telePeriod).toNat = 0 then none
          else some (10 * (s.param .telePeriod).toNat) } }
    let torn := s.store.slots.toList.count .torn
    exec .endOfStartUp s = .next (
      if torn = 0 then started.raise (.start s.rep.cause)
      else ((started.raise (.start s.rep.cause)).setLatch .torn).raise (.tornFound torn)) ∧
    (Event.tornFound torn).detail = min torn 255

/-- Loss of supply ends a running save at once and everything the part does; STOP_N's level is left open
(R150; log entry 10). Without supply every command but a power-on reset, and during start-up every command but
the resets, END_OF_START_UP and POWER_LOSS, leaves the part as it is (R23, R178; the model's choice where the
spec is silent, log entry 18). -/
def Obligations.PowerLossStopsThePart : Prop :=
  (∀ (s : State) (reach : SaveReach), s.phase ≠ .off →
    exec (.powerLoss reach) s = .next { s with
      phase := .off
      store := s.store.cut reach
      drv := { s.drv with stopN := Config.stopNUnpowered } }) ∧
  ∀ (s : State) (c : Instr), (∀ n1 n0 reach, c ≠ .powerOnReset n1 n0 reach) →
    (s.phase = .off → exec c s = .next s) ∧
    (s.phase = .startUp → (∀ n1 n0 reach, c ≠ .pinReset n1 n0 reach) → c ≠ .endOfStartUp →
      (∀ reach, c ≠ .powerLoss reach) → exec c s = .next s)

/-! ## The N-link port (R178, R180, R187) -/

/-- What the port does with a request it does not hand on: a frame without a payload is counted, one that
meets a full queue is discarded and counted (but for a RESET that R185 exempts), one of the wrong length is
answered LENGTH, and one other than a QUERY taken in LOCKED is answered STATE (R180). A QUERY without a
subject is answered LENGTH, one with a subject above 7 RANGE with the subject alone, whatever its length, and
one whose arguments are not those of its subject LENGTH, in LOCKED too (R180, R183, R187). That a QUERY of no
subject comes as UNKNOWN_KIND is the model's choice (log entry 17). The kinds and the reply codes have the numbers
of section 10.4 and of the table under R180. -/
def Obligations.PortRefusesBeforeTheOwner : Prop :=
  (([.move, .keep, .resume, .dock, .undock, .pose, .tileFill, .tileRun, .classRecord, .beacon, .config, .mask,
      .ack, .save, .storeClear, .query, .reset] : List NKind).map NKind.code =
    [0x10, 0x11, 0x12, 0x13, 0x14, 0x15, 0x20, 0x21, 0x22, 0x23, 0x30, 0x31, 0x32, 0x33, 0x34, 0x38, 0x3F] ∧
  ([.ok, .clamped, .full, .stale, .range, .state, .yielded, .halted, .storeError, .length, .kind] :
    List ReplyCode).map ReplyCode.byte = [0, 1, 2, 3, 4, 5, 6, 7, 8, 9, 10]) ∧
  ∀ (s : State) (k : NKind) (req : Byte) (rest : List Byte), s.phase = .running →
    let p := req :: rest
    let taken := s.frameTaken .n p.length
    exec (requestOf k []) s = .next ((s.frameTaken .n 0).count .nCheck 1) ∧
    (16 ≤ s.queued → ¬(k = .reset ∧ rest = [] ∧ s.trv.state ≠ .locked) →
      exec (requestOf k p) s = .next (taken.count .replyLost 1)) ∧
    (s.queued < 16 → k ≠ .query → layoutAllows k p = false →
      exec (requestOf k p) s = .next (s.replied p.length req k .length [])) ∧
    (s.queued < 16 → k ≠ .query → layoutAllows k p = true → s.trv.state = .locked →
      exec (requestOf k p) s = .next (s.replied p.length req k .state [])) ∧
    (s.queued < 16 → exec (.unknownKind 0x38 [req]) s = .next (s.replied 1 req .query .length [])) ∧
    ∀ (subject : Byte) (args : List Byte),
      let c := queryOf req subject args
      let n := args.length + 2
      let needed := if subject = 2 then 4 else if subject = 5 ∨ subject = 6 ∨ subject = 7 then 1 else 0
      (16 ≤ s.queued → exec c s = .next ((s.frameTaken .n n).count .replyLost 1)) ∧
      (s.queued < 16 → 7 < subject.toNat → exec c s = .next (s.replied n req .query .range [subject])) ∧
      (s.queued < 16 → subject.toNat ≤ 7 → args.length ≠ needed →
        exec c s = .next (s.replied n req .query .length []))

/-- A request of unknown kind is counted in N_KIND and answered KIND, or where the queue is full discarded
and counted in REPLY_LOST as well; one without a payload is counted in N_CHECK alone (cases 1 to 3 of R180).
An intact frame of a wrong kind or length on the D-link or the S-link is discarded and counted in the link's
check counter (R179). -/
def Obligations.FramesOfOtherKindsAreCounted : Prop :=
  ∀ (s : State) (kind req : Byte) (rest p : List Byte), s.phase = .running →
    let taken := (s.frameTaken .n (req :: rest).length).count .nKind 1
    (NKind.ofByte kind = none →
      exec (.unknownKind kind []) s = .next ((s.frameTaken .n 0).count .nCheck 1)) ∧
    (NKind.ofByte kind = none → s.queued < 16 → exec (.unknownKind kind (req :: rest)) s =
      .next (taken.pushUp { kind := kindReply, payload := [req, kind, ReplyCode.kind.byte] })) ∧
    (NKind.ofByte kind = none → 16 ≤ s.queued →
      exec (.unknownKind kind (req :: rest)) s = .next (taken.count .replyLost 1)) ∧
    (¬(kind = 0xC0 ∧ p.length = 7) →
      exec (.wrongKindFrame .d kind p) s = .next ((s.frameTaken .d p.length).count .dCheck 1)) ∧
    (¬(kind = 0xD0 ∧ p.length = 16) →
      exec (.wrongKindFrame .s kind p) s = .next ((s.frameTaken .s p.length).count .sCheck 1))

/-- Every frame the part sends is one its own receivers would take whole, its CHECK matching; over
"123456789" the CRC is 0x29B1 (R177). A hunting receiver enters a frame at SYNC; a frame is discarded for
its LEN, for a byte error inside it, for a CHECK that does not match, or for a gap inside it; then the link's
check counter rises and the bytes received after its SYNC are scanned again (R178), without the byte in error
(the model's choice, log entry 29) and, after a gap, without a gap test among them (log entry 16). After an intact
frame the receiver hunts from the byte after its CHECK (R178). -/
def Obligations.ReceiverTakesWholeFramesAndHuntsAgain : Prop :=
  crc [0x31, 0x32, 0x33, 0x34, 0x35, 0x36, 0x37, 0x38, 0x39] = 0x29B1 ∧
  (∀ (f : Frame) (e : Bool), f.payload.length ≤ 200 → ∃ r, f.wire = 0xC5 :: r ∧
    r.length = f.payload.length + 4 ∧ incomplete r = false ∧ discards r e = false ∧
    ∀ n, n < r.length → incomplete (r.take n) = true) ∧
  (∀ (s : State) (link : Link), s.phase = .running → s.port.receiver link = .hunting →
    exec (.syncFound link) s = .next (s.setReceiver link (.inFrame []))) ∧
  (∀ (s : State) (link other : Link) (n : Nat) (r : Receiver),
    (s.setReceiver link r).port.receiver other = (if other = link then r else s.port.receiver other) ∧
    s.frameTaken link n = s.setReceiver link (match s.port.receiver link with
      | .hunting => .hunting
      | .inFrame got => match (got.drop (n + 4)).dropWhile (fun b => b != 0xC5) with
        | [] => .hunting
        | _ :: rest => .inFrame rest)) ∧
  ∀ (s : State) (link : Link) (got bytes : List Byte) (err : Bool), s.phase = .running →
    s.port.receiver link = .inFrame got →
    let r := got ++ bytes
    let len := (byteAt r 1).toNat
    let whole := 2 ≤ r.length ∧ len ≤ 200 ∧ len + 4 ≤ r.length
    let again : Receiver := match r.dropWhile (fun b => b != 0xC5) with
      | [] => .hunting
      | _ :: rest => .inFrame rest
    let discarded := (s.setReceiver link again).count (checkCounter link) 1
    (2 ≤ r.length ∧ 200 < len ∨ err = true ∧ ¬whole ∨
      whole ∧ [byteAt r (len + 2), byteAt r (len + 3)] ≠ bytes16 (crc (r.take (len + 2))) →
      exec (.frameDiscard link bytes err) s = .next discarded) ∧
    (¬whole → ¬(2 ≤ r.length ∧ 200 < len) → exec (.interByteTimeout link bytes) s = .next discarded)

/-! ## MOVE and KEEP (R46 to R51, R56, R57, R60) -/

/-- A meaningful MOVE taken in IDLE with a fresh beat becomes the ACTIVE head, the state becomes CRUISE and
the cadence timer starts; the reply is OK, or CLAMPED where a value was clamped (R49, R50, R51). -/
def Obligations.MoveStartsCruise : Prop :=
  ∀ (s : State) (p : List Byte),
    let f := MoveFields.read p
    s.Takes → p.length = 13 → s.trv.state = .idle → s.trv.yield = false → s.seg.queue = [] →
    s.seg.FreshBeat f.beat → f.Meaningful →
    let t := (s.replied 13 (byteAt p 0) .move (if f.OutOfRange then .clamped else .ok) [1, 1, 0]).enter .cruise
    exec (.move p) s = .next { t with seg :=
      { queue := [f.record .active], lastBeat := some (decide (f.beat = 1))
        cadence := some (s.paramNat .cadenceWindow) } }

/-- A meaningful MOVE taken in CRUISE with a fresh beat restarts the cadence timer; one taken in LIMP first
restores CRUISE, stopping the grace timer and raising CADENCE RESTORED, and is then judged as in CRUISE. With
APPEND it joins the tail as QUEUED, or is refused FULL where the queue holds 8 records; with REPLACE every
record is aborted with reason REPLACED, head first, it becomes the sole ACTIVE record, and its reply counts the
records aborted (R45, R46, R50, R51, R57, R60). That the reply stands before the notes the request raises is
the model's choice (log entry 6). -/
def Obligations.MoveAppendsOrReplacesInCruise : Prop :=
  ∀ (s : State) (p : List Byte),
    let f := MoveFields.read p
    s.Takes → p.length = 13 → s.trv.state = .cruise ∨ s.trv.state = .limp → s.trv.yield = false →
    s.TravelOk → s.ApproachOk → s.seg.queue.length ≤ 8 → s.seg.FreshBeat f.beat → f.Meaningful →
    let n := s.seg.queue.length
    let verdict := if f.OutOfRange then ReplyCode.clamped else .ok
    let seg : SegmentQueue := { s.seg with
      lastBeat := some (decide (f.beat = 1)), cadence := some (s.paramNat .cadenceWindow) }
    exec (.move p) s = .next (
      if f.placement = 1 then
        { (s.replied 13 (byteAt p 0) .move verdict [1, 1, carry8 n]).cadenceRestored.raiseAll
            (abortEvents s.seg.queue .replaced)
          with seg := { seg with queue := [f.record .active] } }
      else if n = 8 then
        { (s.replied 13 (byteAt p 0) .move .full [1, 8, 0]).cadenceRestored with seg := seg }
      else { (s.replied 13 (byteAt p 0) .move verdict [1, carry8 (n + 1), 0]).cadenceRestored with
        seg := { seg with queue := s.seg.queue ++ [f.record .queued] } })

/-- A MOVE refused by the beat check has no effect but its reply (R46, R47). One refused by its travel state,
or for a segment without meaning, has passed the beat check: the last beat is set, in CRUISE without a yield
the cadence timer restarts, in LIMP CRUISE is restored, and the queue is left (R46, R48, R49, R60). That the
reply stands before CADENCE RESTORED is the model's choice (log entry 6). -/
def Obligations.RefusedMoveLeavesTheQueue : Prop :=
  ∀ (s : State) (p : List Byte) (code : ReplyCode), s.Takes → p.length = 13 →
    let f := MoveFields.read p
    let state := carry8 s.trv.state.number
    let depth := carry8 s.seg.queue.length
    let beaten : SegmentQueue := { s.seg with lastBeat := some (decide (f.beat = 1)) }
    (1 < f.beat → exec (.move p) s = .next (s.replied 13 (byteAt p 0) .move .range [state, depth, 0])) ∧
    (f.beat ≤ 1 → s.seg.lastBeat = some (decide (f.beat = 1)) →
      exec (.move p) s = .next (s.replied 13 (byteAt p 0) .move .stale [state, depth, 0])) ∧
    (s.seg.FreshBeat f.beat →
      (s.trv.state = .cruise ∧ s.trv.yield = true ∧ code = .yielded ∨
        s.trv.state = .approach ∧ code = .yielded ∨ s.trv.state = .halted ∧ code = .halted ∨
        (s.trv.state = .backoff ∨ s.trv.state = .docked ∨ s.trv.state = .fault) ∧ code = .state) →
      exec (.move p) s = .next
        { s.replied 13 (byteAt p 0) .move code [state, depth, 0] with seg := beaten }) ∧
    (s.seg.FreshBeat f.beat → ¬f.Meaningful → s.trv.state = .idle → s.seg.queue = [] →
      exec (.move p) s = .next
        { s.replied 13 (byteAt p 0) .move .range [0, 0, 0] with seg := beaten }) ∧
    (s.seg.FreshBeat f.beat → ¬f.Meaningful → s.trv.state = .cruise → s.trv.yield = false →
      s.seg.queue ≠ [] →
      exec (.move p) s = .next
        { s.replied 13 (byteAt p 0) .move .range [1, depth, 0] with
          seg := { beaten with cadence := some (s.paramNat .cadenceWindow) } }) ∧
    (s.seg.FreshBeat f.beat → ¬f.Meaningful → s.trv.state = .limp → s.TravelOk → s.ApproachOk →
      exec (.move p) s = .next
        { (s.replied 13 (byteAt p 0) .move .range [1, depth, 0]).cadenceRestored with
          seg := { beaten with cadence := some (s.paramNat .cadenceWindow) } })

/-- A KEEP is answered RANGE for a beat above 1 and STALE for the last beat again, without effect; one with a
fresh beat is answered OK, sets the last beat, restarts the cadence timer in CRUISE without a yield, and in
LIMP first restores CRUISE, stopping the grace timer and raising CADENCE RESTORED (R47, R56, R57, R60). That
the reply stands before that note is the model's choice (log entry 6). -/
def Obligations.KeepHoldsTheCadence : Prop :=
  ∀ (s : State) (req beat : Byte), s.Takes → s.TravelOk →
    let state := carry8 s.trv.state.number
    let depth := carry8 s.seg.queue.length
    let beaten : SegmentQueue := { s.seg with lastBeat := some (decide (beat.toNat = 1)) }
    (1 < beat.toNat → exec (.keep [req, beat]) s = .next (s.replied 2 req .keep .range [state, depth])) ∧
    (beat.toNat ≤ 1 → s.seg.lastBeat = some (decide (beat.toNat = 1)) →
      exec (.keep [req, beat]) s = .next (s.replied 2 req .keep .stale [state, depth])) ∧
    (s.seg.FreshBeat beat.toNat → s.trv.state ≠ .limp →
      exec (.keep [req, beat]) s = .next { s.replied 2 req .keep .ok [state, depth] with
        seg := { beaten with
          cadence := if s.trv.state = .cruise ∧ s.trv.yield = false
            then some (s.paramNat .cadenceWindow) else s.seg.cadence } }) ∧
    (s.seg.FreshBeat beat.toNat → s.trv.state = .limp →
      let t := s.replied 2 req .keep .ok [1, depth]
      let u := ({ t with trv := { t.trv with state := .cruise, grace := none } } : State).raise .cadenceRestored
      exec (.keep [req, beat]) s = .next
        { u with
          seg := { beaten with cadence := some (s.paramNat .cadenceWindow) }
          dock := { s.dock with sub := .none_, approach := none, beamLost := none, settle := none } })

/-! ## RESUME, DOCK, UNDOCK, POSE -/

/-- RESUME gives IDLE in HALTED unless the link is silent or a wheel hangs; its reply carries the travel
state after it, the levels and the silent flag (R111). That it leaves p as it stands, where no computation was
taken in HALTED, is log entry 30. -/
def Obligations.ResumeByTravelState : Prop :=
  ∀ (s : State) (req : Byte), s.Takes →
    let z := s.haz
    let levels : List Byte := [carry8 z.fl.level.number, carry8 z.fr.level.number,
      carry8 z.sl.level.number, carry8 z.sr.level.number, carryFlag z.dropL, carryFlag z.dropR,
      carryFlag z.bumpL, carryFlag z.bumpR, carryFlag z.silent]
    exec (.resume [req]) s = .next (
      if s.trv.state ≠ .halted then s.replied 1 req .resume .state (carry8 s.trv.state.number :: levels)
      else if z.silent = true ∨ z.dropL = true ∨ z.dropR = true then
        s.replied 1 req .resume .halted (4 :: levels)
      else (s.replied 1 req .resume .ok (0 :: levels)).enter .idle)

/-- DOCK begins an approach in IDLE, in SETTLE where the contact is closed and in SEEK otherwise; in CRUISE
it begins a yield, whose queued records are aborted; elsewhere it is refused (R134, R135, R137). That the
reply stands before the notes the request raises is the model's choice (log entry 6). -/
def Obligations.DockByTravelState : Prop :=
  ∀ (s : State) (req : Byte), s.Takes →
    exec (.dock [req]) s = .next (
      if s.trv.state = .idle then
        let t := (s.replied 1 req .dock .ok [5, if s.dock.contact then 4 else 1, 0]).enter .approach
        ({ t with dock := { s.dock with
            sub := if s.dock.contact then .settle else .seek
            approach := some (1000 * s.paramNat .approachLimit)
            settle := if s.dock.contact then some (s.paramNat .contactSettle) else none
            beamLost := none } } : State).raise .dockGranted
      else if s.trv.state = .cruise ∧ s.trv.yield = false then
        let t : State := { s.replied 1 req .dock .ok [1, carry8 s.dock.sub.number, 1] with
          seg := { s.seg with queue := s.seg.queue.take 1 } }
        { t.raiseAll (abortEvents (s.seg.queue.drop 1) .yield) with
          trv := { s.trv with yield := true },
          seg := { s.seg with queue := s.seg.queue.take 1, cadence := none } }
      else s.replied 1 req .dock (if s.trv.state = .halted then .halted else .state)
        [carry8 s.trv.state.number, carry8 s.dock.sub.number, carryFlag s.trv.yield])

/-- UNDOCK starts a back-off of UNDOCK_DIST in DOCKED, ends an approach with DOCK FAILED, CANCELLED,
cancels a pending yield alike with the cadence timer restarted, and is refused STATE elsewhere (R63, R136,
R144, R145). That the reply stands before the notes the request raises is the model's choice (log entry 6), and
that p stands, where no computation was taken in DOCKED or SETTLE, is log entry 30. -/
def Obligations.UndockByTravelState : Prop :=
  ∀ (s : State) (req : Byte), s.Takes → s.TravelOk →
    exec (.undock [req]) s = .next (
      if s.trv.state = .docked then
        let t := (s.replied 1 req .undock .ok [3, 0, 0]).enter .backoff
        { t with trv := { t.trv with backoff := some ⟨.undock, s.paramNat .undockDist, 0, 0⟩ } }
      else if s.trv.state = .approach then
        ((s.replied 1 req .undock .ok [0, 0, 0]).enter .idle).raise (.dockFailed .cancelled)
      else if s.trv.state = .cruise ∧ s.trv.yield = true then
        let t : State := { s.replied 1 req .undock .ok [1, carry8 s.dock.sub.number, 0] with
          trv := { s.trv with yield := false } }
        { t.raise (.dockFailed .cancelled) with
          seg := { s.seg with cadence := some (s.paramNat .cadenceWindow) } }
      else s.replied 1 req .undock .state
        [carry8 s.trv.state.number, carry8 s.dock.sub.number, carryFlag s.trv.yield])

/-- A POSE correction on the map, of quality DEGRADED or GOOD, outside DOCKED, replaces x, y, h and the
quality and raises POSE RESTORED where the quality rises; any other is refused. The reply carries the pose
as it stood before (R38, R39). That the reply stands before that note is the model's choice (log entry 6). -/
def Obligations.PoseCorrection : Prop :=
  ∀ (s : State) (p : List Byte), s.Takes → p.length = 12 →
    let x := signed32At p 1
    let y := signed32At p 5
    let q := byteAt p 11
    let before := carry32 s.pose.x ++ carry32 s.pose.y ++ carry16 s.pose.h ++ [carry8 s.pose.quality.number]
    exec (.pose p) s = .next (
      if q ≠ 1 ∧ q ≠ 2 ∨ x < -12800000 ∨ 12799999 < x ∨ y < -12800000 ∨ 12799999 < y then
        s.replied 12 (byteAt p 0) .pose .range before
      else if s.trv.state = .docked then s.replied 12 (byteAt p 0) .pose .state before
      else
        let t : State := { s.replied 12 (byteAt p 0) .pose .ok before with
          pose := { s.pose with
            x := x, y := y, h := unsignedAt p 9, quality := if q = 2 then .good else .degraded } }
        if s.pose.quality = .lost ∨ s.pose.quality = .degraded ∧ q = 2 then t.raise .poseRestored else t)

/-! ## Loads (R10 to R20, R139) -/

/-- TILE_FILL is refused RANGE without effect, or writes every tile of its rectangle by R10: the tiles the
part has observed stay unless override is set. Its reply counts the pieces, the tiles changed and the tiles
protected; exactly the pages with a changed tile become dirty (R10, R12, R13, R14, R17). -/
def Obligations.TileFillWritesItsRectangle : Prop :=
  ∀ (s : State) (p : List Byte), s.Takes → s.map.Ok → p.length = 7 →
    let f := FillFields.read p
    let inside := fun tx ty => f.tx0 ≤ tx ∧ tx ≤ f.tx1 ∧ f.ty0 ≤ ty ∧ ty ≤ f.ty1
    let c := classNo f.cls
    let changes := fun tx ty => inside tx ty ∧ Changes (s.map.tile tx ty) c (f.override = 1)
    let all := (List.range 256).flatMap (fun ty => (List.range 256).map (fun tx => (tx, ty)))
    let pieces := (f.tx1 / 16 - f.tx0 / 16 + 1) * (f.ty1 / 16 - f.ty0 / 16 + 1)
    let changed := all.countP (fun a => decide (changes a.1 a.2))
    let guarded := all.countP
      (fun a => decide (inside a.1 a.2 ∧ Protects (s.map.tile a.1 a.2) (f.override = 1)))
    if f.tx1 < f.tx0 ∨ f.ty1 < f.ty0 ∨ 15 < f.cls ∨ 1 < f.override then
      exec (.tileFill p) s =
        .next (s.replied 7 (byteAt p 0) .tileFill .range (carry16 0 ++ carry32 0 ++ carry32 0))
    else ∃ m : TileMap,
      exec (.tileFill p) s = .next
        { s.replied 7 (byteAt p 0) .tileFill .ok (carry16 pieces ++ carry32 changed ++ carry32 guarded) with
          map := m } ∧
      m.Ok ∧ m.classes = s.map.classes ∧
      (∀ tx ty, tx < 256 → ty < 256 →
        m.tile tx ty = if changes tx ty then loadedTile c else s.map.tile tx ty) ∧
      ∀ q : Page, m.dirty[q] = true ↔
        s.map.dirty[q] = true ∨ ∃ tx ty, tx < 256 ∧ ty < 256 ∧ changes tx ty ∧ tilePage tx ty = q

/-- TILE_RUN is refused RANGE without effect, or writes its class values along one row, each by R10; values
beyond tx 255 are dropped and make the reply CLAMPED. Its reply counts the tiles placed, changed and
protected; exactly the pages with a changed tile become dirty (R10, R15, R16, R17). -/
def Obligations.TileRunWritesItsRow : Prop :=
  ∀ (s : State) (p : List Byte), s.Takes → s.map.Ok → 5 ≤ p.length → p.length ≤ 195 →
    p.length = 5 + (byteAt p 4).toNat →
    let tx := (byteAt p 1).toNat
    let ty := (byteAt p 2).toNat
    let override := (byteAt p 3).toNat
    let count := (byteAt p 4).toNat
    let placed := min count (256 - tx)
    let cls := fun i => classNo (byteAt p (5 + i)).toNat
    let changes := fun i => Changes (s.map.tile (tx + i) ty) (cls i) (override = 1)
    let changed := (List.range placed).countP (fun i => decide (changes i))
    let guarded := (List.range placed).countP
      (fun i => decide (Protects (s.map.tile (tx + i) ty) (override = 1)))
    if count = 0 ∨ (∃ b ∈ p.drop 5, 15 < b.toNat) ∨ 1 < override then
      exec (.tileRun p) s = .next (s.replied p.length (byteAt p 0) .tileRun .range [0, 0, 0])
    else ∃ m : TileMap,
      exec (.tileRun p) s = .next
        { s.replied p.length (byteAt p 0) .tileRun (if placed < count then .clamped else .ok)
            [carry8 placed, carry8 changed, carry8 guarded] with map := m } ∧
      m.Ok ∧ m.classes = s.map.classes ∧
      (∀ i, i < placed →
        m.tile (tx + i) ty = if changes i then loadedTile (cls i) else s.map.tile (tx + i) ty) ∧
      (∀ x y, x < 256 → y < 256 → ¬(y = ty ∧ tx ≤ x ∧ x < tx + placed) → m.tile x y = s.map.tile x y) ∧
      ∀ q : Page, m.dirty[q] = true ↔
        s.map.dirty[q] = true ∨ ∃ i, i < placed ∧ changes i ∧ tilePage (tx + i) ty = q

/-- CLASS is refused RANGE for a class above 15, its fields carried back; otherwise the whole record of the
class is replaced by the fields clamped, CLIFF and DOCK staying blocking, and the reply carries it as stored,
CLAMPED where it differs (R7, R18, R19, R20). BEACON is refused RANGE for a code above 4, its fields carried
back; otherwise the entry of the pair is replaced by v and w clamped, and the reply carries it as stored,
CLAMPED where it differs (R138, R139). -/
def Obligations.ClassAndBeaconRecordsAreStoredClamped : Prop :=
  (∀ (s : State) (p : List Byte), s.Takes → p.length = 9 →
    let f := ClassFields.read p
    let fixed := f.cls = 6 ∨ f.cls = 8
    let r : ClassRecord := {
      blocks := decide (f.blocks ≠ 0 ∨ fixed), cap := min f.cap 700
      brush := if f.brush = 0 then .off else if f.brush = 1 then .low else if f.brush = 2 then .normal
        else .high
      side := decide (f.side ≠ 0), cliff := min f.cliff 1023 }
    let moved := 1 < f.blocks ∨ 700 < f.cap ∨ 3 < f.brush ∨ 1 < f.side ∨ 1023 < f.cliff ∨
      f.blocks = 0 ∧ fixed
    exec (.classRecord p) s = .next (
      if 15 < f.cls then s.replied 9 (byteAt p 0) .classRecord .range (p.drop 1)
      else
        { s.replied 9 (byteAt p 0) .classRecord (if moved then .clamped else .ok)
            ([carry8 f.cls, carryFlag r.blocks] ++ carry16 r.cap ++
              [carry8 r.brush.number, carryFlag r.side] ++ carry16 r.cliff) with
          map := { s.map with classes := s.map.classes.set (classNo f.cls) r } })) ∧
  ∀ (s : State) (p : List Byte), s.Takes → p.length = 7 →
    let l := (byteAt p 1).toNat
    let r := (byteAt p 2).toNat
    let v := signedAt p 3
    let w := signedAt p 5
    let e : BeaconEntry := { v := max (-100) (min 150 v), w := max (-1500) (min 1500 w) }
    exec (.beacon p) s = .next (
      if 4 < l ∨ 4 < r then s.replied 7 (byteAt p 0) .beacon .range (p.drop 1)
      else
        { s.replied 7 (byteAt p 0) .beacon (if e.v = v ∧ e.w = w then .ok else .clamped)
            ([carry8 l, carry8 r] ++ carry16 e.v ++ carry16 e.w) with
          dock := { s.dock with beacon := s.dock.beacon.set (beaconIndex l r) e } })

/-! ## CONFIG, MASK, ACK (R167, R169, R171, R172, R182) -/

/-- CONFIG is refused RANGE for an identifier of no parameter and STATE for a geometry parameter outside
IDLE, HALTED, DOCKED and FAULT; otherwise the value is clamped, REST_PERIOD rounded down to a multiple of 10,
and stored. A write of TELE_PERIOD starts a stopped telemetry timer, one of FORWARD_DECIM sets the forwarding
count to 0 (R171, R172, R182; the value a STATE reply carries is the model's choice, log entry 22). The 49
parameters have the identifiers, ranges and geometry of the table of R182. -/
def Obligations.ConfigStoresAClampedValue : Prop :=
  (let table : List (Param × Int × Int × Bool) :=
     [(.track, 100000, 400000, true), (.tickL, 20, 2000, true), (.tickR, 20, 2000, true),
      (.halfWidth, 100, 250, true), (.fwdFL, 0, 250, true), (.latFL, -250, 250, true), (.fwdFR, 0, 250, true),
      (.latFR, -250, 250, true), (.fwdSL, 0, 250, true), (.latSL, -250, 250, true), (.fwdSR, 0, 250, true),
      (.latSR, -250, 250, true), (.dockX, -12800000, 12799999, true), (.dockY, -12800000, 12799999, true),
      (.dockH, 0, 65535, true), (.accel, 100, 2000, false), (.decel, 200, 2000, false),
      (.margin, 20, 200, false), (.capHorizon, 0, 1280, false), (.wheelMax, 100, 700, false),
      (.reverseCap, 50, 400, false), (.degradedCap, 50, 600, false), (.lostCap, 50, 400, false),
      (.limpSpeed, 30, 300, false), (.limpGrace, 0, 10000, false), (.cadenceWindow, 50, 1000, false),
      (.cadencePolicy, 0, 1, false), (.holdLimit, 200, 10000, false), (.bumpReact, 0, 1, false),
      (.backoffSpeed, 50, 300, false), (.backoffDist, 10, 200, false), (.undockDist, 50, 500, false),
      (.cliffHyst, 0, 255, false), (.senseTimeout, 10, 100, false), (.odomCheckK, 3, 50, false),
      (.maxTicks, 10, 2000, false), (.responseTimeout, 1, 9, false), (.missLimit, 1, 10, false),
      (.waitLimit, 10, 500, false), (.restPeriod, 20, 500, false), (.faultGuard, 1, 60, false),
      (.approachLimit, 10, 300, false), (.beamLost, 500, 10000, false), (.creepSpeed, 20, 150, false),
      (.seekRate, 100, 1500, false), (.contactSettle, 50, 2000, false), (.telePeriod, 0, 255, false),
      (.forwardDecim, 0, 50, false), (.autoSave, 0, 1, false)]
   table.length = 49 ∧ table.map (fun r => r.1.index) = List.finRange 49 ∧
   (∀ r ∈ table, r.1.row.lo = r.2.1 ∧ r.1.row.hi = r.2.2.1 ∧ r.1.row.geometry = r.2.2.2) ∧
   ∀ id : Byte, Param.ofId id =
     if id = 0 then none else (table[id.toNat - 1]?).map (fun r => r.1)) ∧
  ∀ (s : State) (p : List Byte), s.Takes → p.length = 6 →
    let id := byteAt p 1
    let value := signed32At p 2
    let still := s.trv.state = .idle ∨ s.trv.state = .halted ∨ s.trv.state = .docked ∨ s.trv.state = .fault
    exec (.config p) s = .next (
      match Param.ofId id with
      | none => s.replied 6 (byteAt p 0) .config .range (p.drop 1)
      | some q =>
        if q.row.geometry = true ∧ ¬still then
          s.replied 6 (byteAt p 0) .config .state (id :: carry32 (s.param q))
        else
          let clamped := max q.row.lo (min q.row.hi value)
          let v := if q = .restPeriod then clamped - clamped % 10 else clamped
          let tele := if v = 0 then none else some (10 * v.toNat)
          { s.replied 6 (byteAt p 0) .config (if v = value then .ok else .clamped) (id :: carry32 v) with
            params := s.params.set q.index v
            rep := if q = .telePeriod ∧ s.rep.tele = none then { s.rep with tele := tele }
              else if q = .forwardDecim then { s.rep with fwd := 0 } else s.rep })

/-- MASK is refused RANGE for an enable above 1; with enable 0 it sets the masks and clears every pending
record; with enable 1 it sets the masks, then releases the pending unmasked classes after its reply. The
reply carries the masks, the enable and the classes still pending (R167). -/
def Obligations.MaskSetsAndReleases : Prop :=
  ∀ (s : State) (req masks enable : Byte), s.Takes →
    exec (.mask [req, masks, enable]) s = .next (
      if 1 < enable.toNat then
        s.replied 3 req .mask .range [s.maskByte, carryFlag s.rep.enable, s.pendingClasses]
      else if enable = 0 then
        { s.replied 3 req .mask .ok [masks, 0, 0] with
          rep := { s.rep with
            masks := masksOf masks, enable := false, held := Vector.replicate 8 none } }
      else
        let opened := fun data => ({ s.replied 3 req .mask .ok data with
          rep := { s.rep with masks := masksOf masks, enable := true } } : State).release
        opened [masks, 1, (opened [masks, 1, 0]).pendingClasses])

/-- ACK is refused RANGE, clearing nothing, if it names a position above 11; otherwise exactly the latches it
names are cleared, and the reply carries the latch set after it (R169). -/
def Obligations.AckClearsExactlyTheNamedLatches : Prop :=
  ∀ (s : State) (req lo hi : Byte), s.Takes →
    let left := s.rep.latches &&& ~~~((hi ++ lo).setWidth 12 : BitVec 12)
    exec (.ack [req, lo, hi]) s = .next (
      if 16 ≤ hi.toNat then s.replied 3 req .ack .range s.latchBytes
      else { s.replied 3 req .ack .ok (bytes16 (left.setWidth 16)) with
        rep := { s.rep with latches := left } })

/-! ## SAVE, STORE_CLEAR and the two ends of a save (R151 to R157) -/

/-- SAVE is refused RANGE for a mode above 1 and STORE_ERROR while the error latch is set; otherwise the page,
or every dirty page, not yet listed joins the list's tail, and an IDLE store starts the save of the head: the
page leaves the list, its bytes are snapshotted, its dirty flag is cleared. The reply carries the pages added,
the list length and the store state (R151, R152, R153). The snapshot of a page holds its 256 tile bytes in the
page's order, and nothing else (R2, R153). -/
def Obligations.SaveListsPagesAndStarts : Prop :=
  (∀ (s : State) (req mode page : Byte), s.Takes → s.StoreOk →
    let st := s.store
    let named : List Page := if mode = 0 then [page.toFin]
      else (List.finRange 256).filter (fun q => s.map.dirty[q])
    let adds := named.filter (fun q => decide (q ∉ st.list))
    let number : Byte := if st.error then 2 else if st.current.isSome then 1 else 0
    exec (.save [req, mode, page]) s = .next (
      if 1 < mode.toNat then
        s.replied 3 req .save .range (carry16 0 ++ carry16 st.list.length ++ [number])
      else if st.error then
        s.replied 3 req .save .storeError (carry16 0 ++ carry16 st.list.length ++ [2])
      else if st.current.isSome then
        { s.replied 3 req .save .ok
            (carry16 adds.length ++ carry16 (st.list ++ adds).length ++ [1]) with
          store := { st with list := st.list ++ adds } }
      else match adds with
        | [] => s.replied 3 req .save .ok (carry16 0 ++ carry16 0 ++ [0])
        | q :: rest =>
          { s.replied 3 req .save .ok (carry16 adds.length ++ carry16 rest.length ++ [1]) with
            store := { st with list := rest, current := some ⟨q, pageBytes s.map.tiles q⟩ }
            map := { s.map with dirty := s.map.dirty.set q false } })) ∧
  ∀ (m : TileMap) (tx ty : Nat), m.Ok → tx < 256 → ty < 256 →
    let buffer := pageBytes m.tiles (tilePage tx ty)
    buffer.Within 256 ∧ buffer.read (ty % 16 * 16 + tx % 16) = m.tile tx ty

/-- STORE_CLEAR is refused RANGE for a cancel flag above 1. With the error latch set it clears the latch and,
without cancel, starts the save of the failed page from a new snapshot; with cancel it empties the list. With
the latch clear it has no effect without cancel and empties the list with it, a current save running on (R153,
R157). -/
def Obligations.StoreClearRetriesOrCancels : Prop :=
  ∀ (s : State) (req cancel : Byte) (failed : Page), s.Takes → s.StoreOk →
    (s.store.error = true → s.store.failedPage = some failed) →
    let st := s.store
    let others := st.list.filter (fun q => decide (q ≠ failed))
    let running : Byte := if st.current.isSome then 1 else 0
    exec (.storeClear [req, cancel]) s = .next (
      if 1 < cancel.toNat then
        s.replied 2 req .storeClear .range (carry16 st.list.length ++ [if st.error then 2 else running])
      else if st.error then
        if cancel = 1 then
          { s.replied 2 req .storeClear .ok (carry16 0 ++ [0]) with
            store := { st with error := false, failedPage := none, list := [] } }
        else
          { s.replied 2 req .storeClear .ok (carry16 others.length ++ [1]) with
            store := { st with error := false, failedPage := none, list := others,
                               current := some ⟨failed, pageBytes s.map.tiles failed⟩ }
            map := { s.map with dirty := s.map.dirty.set failed false } }
      else if cancel = 1 then
        { s.replied 2 req .storeClear .ok (carry16 0 ++ [running]) with store := { st with list := [] } }
      else s.replied 2 req .storeClear .ok (carry16 st.list.length ++ [running]))

/-- A completion makes the slot VALID with both marks and the program buffer, raises MAP PAGE_SAVED, and starts
the next listed save or raises MAP LIST_DONE (R150, R153, R155). A verify failure makes the slot TORN and its
page dirty, records page and step, sets the error latch and raises MAP STORE_ERROR; the list is kept (R156). At
ERASE and PROGRAM the complete mark is absent (R150); the bytes left there, and the mark that failed at MARK, are
the model's choice (log entry 20). -/
def Obligations.SaveEndsByCompletionOrFailure : Prop :=
  ∀ (s : State) (c : CurrentSave) (step : FailStep), s.phase = .running → s.StoreOk →
    s.store.current = some c →
    let done : State := { s with store := { s.store with
      slots := s.store.slots.set c.page .valid
      medium := s.store.medium.put c.page ⟨.written, .written, c.buffer⟩ } }
    let u := done.raise (.pageSaved c.page)
    let partly : Slot := match step with
      | .erase => ⟨.written, .absent, []⟩
      | .program => ⟨.written, .absent, []⟩
      | .mark => ⟨.written, .partly, c.buffer⟩
    exec .completion s = .next (match s.store.list with
      | [] => ({ u with store := { u.store with current := none } } : State).raise .listDone
      | q :: rest =>
        { u with
          store := { u.store with list := rest, current := some ⟨q, pageBytes s.map.tiles q⟩ }
          map := { s.map with dirty := s.map.dirty.set q false } }) ∧
    exec (.verifyFailure step) s = .next (({ s with
      store := { s.store with
        slots := s.store.slots.set c.page .torn
        medium := s.store.medium.put c.page partly
        current := none, error := true, failedPage := some c.page, failedStep := some step }
      map := { s.map with dirty := s.map.dirty.set c.page true } } : State).raise
        (.storeError c.page step))

/-! ## QUERY (R21, R22, R66, R139, R161, R174, R183, R184) -/

/-- QUERY TILES is refused RANGE for a rectangle out of order or of more than 190 tiles; otherwise it is
answered OK with the rectangle and one byte per tile, ty ascending and, within each ty, tx ascending, in every
travel state, and changes nothing (R21). -/
def Obligations.QueryTilesReadsTheMap : Prop :=
  ∀ (s : State) (req a b c d : Byte), s.Serves →
    let tx0 := a.toNat
    let ty0 := b.toNat
    let w := c.toNat - tx0 + 1
    let h := d.toNat - ty0 + 1
    if c.toNat < tx0 ∨ d.toNat < ty0 ∨ 190 < w * h then
      exec (.queryTiles req [a, b, c, d]) s = .next (s.replied 6 req .query .range [2])
    else ∃ bytes : List Byte,
      exec (.queryTiles req [a, b, c, d]) s =
        .next (s.replied 6 req .query .ok ([2, a, b, c, d] ++ bytes)) ∧
      bytes.length = w * h ∧
      ∀ i j, i < w → j < h → bytes[j * w + i]? = some (s.map.tile (tx0 + i) (ty0 + j))

/-- QUERY CLASS is answered OK, in every travel state, with the sixteen class records in class order, each of
7 bytes, as they stand; CLIFF and DOCK show as blocking. One that carries a further field is of wrong length
(R22). -/
def Obligations.QueryClassReadsTheTable : Prop :=
  ∀ (s : State) (req : Byte) (args : List Byte), s.Serves → s.map.ClassesOk →
    let record := fun (r : ClassRecord) =>
      carryFlag r.blocks :: carry16 r.cap ++ [carry8 r.brush.number, carryFlag r.side] ++ carry16 r.cliff
    let content := s.map.classes.toList.flatMap record
    exec (.queryClass req args) s = .next (
      if args = [] then s.replied 2 req .query .ok (3 :: content)
      else s.replied (args.length + 2) req .query .length []) ∧
    content.length = 112 ∧ content[7 * 6]? = some 1 ∧ content[7 * 8]? = some 1

/-- QUERY STATUS, SEGMENTS, BEACON, CONFIG, PAGES and COUNTERS are answered in every travel state with their
content, field by field, of the length its layout gives; a RANGE reply carries the subject alone; only COUNTERS
with clear changes anything (R66, R67, R139, R149, R161, R174, R183, R184, R188). That STATUS carries no tag
and no progress of the active record is log entry 27; a progress that does not fit its field is log entry
11. -/
def Obligations.QueriesAnswerAndChangeNothing : Prop :=
  ∀ (s : State) (req a : Byte), s.Serves →
    let st := s.store
    let storeState : Byte := if st.error then 2 else if st.current.isSome then 1 else 0
    let cadenceState : Byte := if s.seg.cadence.isSome then 1
      else if s.trv.state = .limp ∧ s.trv.grace.isSome = true then 2 else 0
    let status := [carry8 s.trv.state.number, carry8 s.dock.sub.number, carryFlag s.trv.yield] ++
      carry32 s.pose.x ++ carry32 s.pose.y ++ carry16 s.pose.h ++
      [carry8 s.pose.quality.number, carry8 s.seg.queue.length] ++ bytes16 (s.rep.latches.setWidth 16) ++
      [carry8 s.rep.cause.number, storeState] ++ carry16 st.list.length ++
      [match s.drv.fault with | none => 0 | some k => carry8 k.number, carry8 s.drv.faultCode,
       carryFlag s.drv.guard.isSome, cadenceState]
    let beat : Byte := match s.seg.lastBeat with | none => 2 | some b => carryFlag b
    let left : Nat := if s.seg.cadence.isSome then s.seg.cadence.getD 0 else s.trv.grace.getD 0
    let backoff := match s.trv.backoff with
      | none => List.replicate 10 0
      | some b => [1, carry8 b.reason.number] ++ carry16 b.distance ++ carryCount b.progress ++ carry16 b.held
    let outcome : List Byte := match s.trv.outcome with
      | none => [0, 0]
      | some (o, r) => [if o = .completed then 1 else 2, carry8 r.number]
    let record := fun (g : Segment) =>
      [carry8 g.tag, carry8 ((if g.state = .active then 1 else 0) + 2 * g.clamped.toNat + 4 * g.side.toNat +
        8 * g.brush.number + 32 * g.kind.number)] ++
      carry16 g.v ++ carry16 g.w ++ carry16 g.extent ++ carryCount g.dist ++ carrySum g.turn ++
      carry16 (if 65535 < g.elapsed then 65535 else g.elapsed) ++ carry16 g.held
    let segments := [carry8 s.trv.state.number, beat, cadenceState] ++ carry16 left ++
      [carry8 s.seg.queue.length] ++ backoff ++ outcome ++ s.seg.queue.flatMap record
    let counters := s.rep.counters.toList.flatMap (fun n => carry16 (n : Int))
    let beacons := s.dock.beacon.toList.flatMap (fun e => carry16 e.v ++ carry16 e.w)
    let pageOrNone := fun (q : Option Page) => match q with | none => [0xFF, 0xFF] | some q => carry16 q.val
    let head := [storeState] ++ carry16 st.list.length ++ pageOrNone (st.current.map (fun c => c.page)) ++
      pageOrNone st.failedPage ++ [match st.failedStep with
        | some .erase => 0 | some .program => 1 | some .mark => 2 | none => 3]
    let pages := (List.finRange 256).map (fun q => carry8 ((match st.slots[q] with
      | .blank => 0 | .valid => 1 | .torn => 2) + (if s.map.dirty[q] then 4 else 0) +
      (if q ∈ st.list then 8 else 0)))
    let entries := st.list.map (fun q => carry8 q.val)
    let part := if a = 0 then pages.take 128 else if a = 1 then pages.drop 128
      else if a = 2 then entries.take 128 else entries.drop 128
    (exec (.queryStatus req []) s = .next (s.replied 2 req .query .ok (0 :: status)) ∧
      status.length = 25) ∧
    (exec (.querySegments req []) s = .next (s.replied 2 req .query .ok (1 :: segments)) ∧
      segments.length = 18 + 20 * s.seg.queue.length) ∧
    (exec (.queryBeacon req []) s = .next (s.replied 2 req .query .ok (4 :: beacons)) ∧
      beacons.length = 100) ∧
    exec (.queryConfig req [a]) s = .next (match Param.ofId a with
      | none => s.replied 3 req .query .range [5]
      | some q => s.replied 3 req .query .ok (5 :: a :: carry32 (s.param q))) ∧
    exec (.queryPages req [a]) s = .next (
      if 3 < a.toNat then s.replied 3 req .query .range [6]
      else s.replied 3 req .query .ok (6 :: head ++ part)) ∧
    (head.length = 8 ∧ pages.length = 256) ∧
    (exec (.queryCounters req [a]) s = .next (
      if 1 < a.toNat then s.replied 3 req .query .range [7]
      else { s.replied 3 req .query .ok (7 :: counters) with
        rep := { s.rep with counters := if a = 1 then Vector.replicate 12 0 else s.rep.counters } }) ∧
      counters.length = 24)

/-! ## Soft reset (R42, R68, R92, R113, R115, R123, R130, R148, R162, R175, R185) -/

/-- A RESET outside LOCKED keeps only the frame being sent, queues its reply whatever the queue held, gives
each block its soft-reset values, and raises SYSTEM START (SOFT) and then, from GOOD, POSE DEGRADED (RESET).
The map, the tables, the parameters, the store, the counters and the timebase stand. That the head of the queue
is the frame being sent is the model's choice (log entry 7). -/
def Obligations.SoftResetGivesSoftValues : Prop :=
  ∀ (s : State) (req : Byte), s.phase = .running → s.trv.state ≠ .locked →
    let gate := fun (c : CliffSensor) =>
      ({ level := c.level, gate := if c.level = .unsafe_ then .spent else .armed } : CliffSensor)
    let taken := s.frameTaken .n 1
    let t : State := { s with
      port := { taken.port with
        out := s.port.out.take 1 ++ [{ kind := kindReply, payload := [req, 0x3F, 0] }] }
      pose := { s.pose with
        quality := if s.pose.quality = .good then .degraded else s.pose.quality
        base := none, stallL := 0, stallR := 0 }
      seg := { queue := [], lastBeat := none, cadence := none }
      trv := { state := .idle, yield := false, grace := none, backoff := none, outcome := s.trv.outcome }
      env := { p := 0, lastD := 1280, lastBound := 0, left := 0, right := 0 }
      haz := { s.haz with
        fl := gate s.haz.fl, fr := gate s.haz.fr, sl := gate s.haz.sl, sr := gate s.haz.sr
        loss := some (s.paramNat .senseTimeout), silent := false }
      drv := { s.drv with
        nextTag := 0, phase := .clear, response := none, misses := 0, waits := 0, stopN := true
        guard := if s.trv.state = .fault then some (1000 * s.paramNat .faultGuard) else s.drv.guard
        period := if s.trv.state = .docked then s.drv.period.map (fun i => { i with length := 10 })
          else s.drv.period }
      dock := { s.dock with
        sub := .none_, approach := none, beamLost := none, settle := none, contact := false }
      rep := { s.rep with
        held := Vector.replicate 8 none, latches := 0, fwd := 0, cause := .soft
        tele := if s.paramNat .telePeriod = 0 then none else some (10 * s.paramNat .telePeriod) } }
    exec (.reset [req]) s = .next (
      if s.pose.quality = .good then (t.raise (.start .soft)).raise (.poseDegraded .reset)
      else t.raise (.start .soft))

/-! ## Raising and release (R164, R165, R166, R189) -/

/-- Every event has the class, code, detail and tag or page of its table; latches and counters have their
positions, a latch set stays set and a counter rises to 65,535 at most (R163, R164, R168, R174).
An event raised with reporting disabled leaves nothing; one of an unmasked class that is not pending
becomes a NOTE frame of count 1 where there is room; any other replaces the class's pending record, its count
rising to 255 at most (R165). At a departure the head leaves, and the lowest pending unmasked class takes the
place it frees (R166). The bytes it shows on the line are the model's view (log entry 19). -/
def Obligations.EventsAreSentOrHeldAndReleased : Prop :=
  (∀ (side tag policy code n : Nat) (sensor : Sensor) (page : Page),
    let shown := fun (e : Event) => (e.cls.number.val, e.code, e.detail, e.extra)
    ([.cliff .fl, .cliff .fr, .cliff .sl, .cliff .sr, .wheelDrop side, .sensorLost, .bump side] :
      List Event).map shown = [(0, 0, 0, none), (0, 0, 1, none), (0, 0, 2, none), (0, 0, 3, none),
        (0, 1, side, none), (0, 2, 0, none), (1, 0, side, none)] ∧
    shown (.segmentDone tag) = (2, 0, 0, some tag) ∧
    ([.replaced, .bump, .cliff, .wheelDrop, .sensorLost, .cadence, .holdLimit, .yield, .fault] :
      List AbortReason).map (fun r => shown (.segmentAborted tag r)) =
        (List.range 9).map (fun d => (2, 1, d, some tag)) ∧
    ([.cadenceLost policy, .cadenceRestored, .dockGranted, .beamFound, .beamLost .align, .beamLost .creep,
      .dockCreep, .docked, .contactLost, .undocked] : List Event).map shown =
      [(3, 0, policy, none), (3, 1, 0, none), (4, 0, 0, none), (4, 1, 0, none), (4, 2, 2, none),
        (4, 2, 3, none), (4, 3, 0, none), (4, 4, 0, none), (4, 6, 0, none), (4, 7, 0, none)] ∧
    ([.cliff, .wheelDrop, .sensorLost, .bump, .timeout, .cancelled, .fault, .halted] :
      List DockFailure).map (fun r => shown (.dockFailed r)) = (List.range 8).map (fun d => (4, 5, d, none)) ∧
    ([.poseDegraded .odomLoss, .poseDegraded .odomJump, .poseDegraded .mapEdge, .poseDegraded .reset, .poseLost,
      .poseRestored] : List Event).map shown = [(5, 0, 0, none), (5, 0, 1, none), (5, 0, 2, none),
        (5, 0, 3, none), (5, 1, 0, none), (5, 2, 0, none)] ∧
    ([.pageSaved page, .listDone, .storeError page .erase, .storeError page .program, .storeError page .mark,
      .tornFound n] : List Event).map shown = [(6, 0, 0, some page.val), (6, 1, 0, none),
        (6, 2, 0, some page.val), (6, 2, 1, some page.val), (6, 2, 2, some page.val), (6, 3, min n 255, none)] ∧
    ([.start .power, .start .pin, .start .soft, .driveFaulted .driveLost code, .driveFaulted .driveFault code,
      .driveFaulted .driveStuck code, .locked .driveLost, .locked .driveFault, .locked .driveStuck] :
      List Event).map shown = [(7, 0, 0, none), (7, 0, 1, none), (7, 0, 2, none), (7, 1, code, none),
        (7, 2, code, none), (7, 3, code, none), (7, 4, 1, none), (7, 4, 2, none), (7, 4, 3, none)] ∧
    sensor.latch.position = sensor.number) ∧
  (([.cliffFL, .cliffFR, .cliffSL, .cliffSR, .bumpL, .bumpR, .wheelDrop, .sensorLost, .odomLoss, .driveTimeout,
      .fault, .torn] : List Latch).map Latch.position = List.range 12 ∧
    ([.nCheck, .dCheck, .sCheck, .nKind, .replyLost, .teleSkip, .forwardSkip, .senseGap, .driveTimeout, .driveLate,
      .driveStray, .observedMarks] : List Counter).map Counter.position = List.finRange 12 ∧
    ∀ (s : State) (l : Latch) (c : Counter) (k : Nat),
      s.queued = s.port.out.length ∧
      s.setLatch l = { s with rep := { s.rep with
        latches := s.rep.latches ||| BitVec.twoPow 12 l.position } } ∧
      s.count c k = { s with rep := { s.rep with
        counters := s.rep.counters.set c.position (min (s.rep.counters[c.position] + k) 65535) } }) ∧
  (∀ (s : State) (e : Event),
    let c := e.cls.number
    let note : Note := {
      cls := e.cls, code := e.code, time := s.rep.timebase, xmm := s.pose.x / 1000, ymm := s.pose.y / 1000
      h := s.pose.h, detail := e.detail, extra := e.extra }
    let payload := [carry8 e.cls.number, carry8 e.code, 1] ++ carry32 s.rep.timebase ++
      carry16 (s.pose.x / 1000) ++ carry16 (s.pose.y / 1000) ++ carry16 s.pose.h ++ [carry8 e.detail] ++
      (match e.extra with | none => [] | some b => [carry8 b])
    let count := match s.rep.held[c] with | none => 1 | some r => min (r.count + 1) 255
    (s.rep.enable = false → s.raise e = s) ∧
    (s.rep.enable = true → s.rep.masks[c] = false → s.rep.held[c] = none → s.queued < 16 →
      s.raise e = s.pushUp { kind := 0x81, payload := payload }) ∧
    (s.rep.enable = true → ¬(s.rep.masks[c] = false ∧ s.rep.held[c] = none ∧ s.queued < 16) →
      s.raise e = { s with rep := { s.rep with held := s.rep.held.set c (some ⟨note, count⟩) } })) ∧
  ∀ (s : State) (f : Frame) (rest : List Frame), s.phase = .running → s.port.out = f :: rest →
    s.ReportsOk →
    let freed : State := { s with port := { s.port with out := rest, nWire := f.wire } }
    ((∀ c : Fin 8, s.rep.masks[c] = false → s.rep.held[c] = none) → exec .departure s = .next freed) ∧
    ∀ (c : Fin 8) (r : Held), s.rep.masks[c] = false → s.rep.held[c] = some r →
      (∀ d : Fin 8, d < c → s.rep.masks[d] = true ∨ s.rep.held[d] = none) →
      exec .departure s = .next (({ freed with
        rep := { s.rep with held := s.rep.held.set c none } } : State).pushUp (noteFrame r.note r.count))

/-! ## The drive exchange (R27 to R34, R53, R55, R114 to R127) -/

/-- An ODOM with the missed tag is LATE, any other that answers no outstanding DRIVE is STRAY; both are only
counted (R117). A response expiry below MISS_LIMIT, or in FAULT, is a miss: the phase becomes MISSED, the
counter and the miss count rise, the DRIVE_TIMEOUT latch is set (R119, R120). The guard expiry stops the timer
alone (R123). -/
def Obligations.MissesAndStraysAreCounted : Prop :=
  ∀ (s : State) (p : List Byte), s.phase = .running →
    let tag := (byteAt p 0).toNat
    (p.length = 7 → s.drv.phase = .missed → tag = s.drv.exTag →
      exec (.odom p) s = .next ((s.frameTaken .d 7).count .driveLate 1)) ∧
    (p.length = 7 → s.drv.phase = .clear ∨ s.drv.phase = .answered ∨ tag ≠ s.drv.exTag →
      exec (.odom p) s = .next ((s.frameTaken .d 7).count .driveStray 1)) ∧
    (s.drv.response.isSome = true → s.drv.misses ≤ 254 →
      s.drv.misses + 1 < s.paramNat .missLimit ∨ s.trv.state = .fault →
      exec .responseTimerExpiry s = .next ((({ s with drv := { s.drv with
        phase := .missed, response := none, misses := s.drv.misses + 1 } } : State).count
          .driveTimeout 1).setLatch .driveTimeout)) ∧
    exec .guardTimerExpiry s = .next { s with drv := { s.drv with guard := none } }

/-- An answer with status READY, or WAIT below WAIT_LIMIT, completes the exchange. With no base it sets the
base alone. Otherwise the wheel deltas are taken modulo 65,536; a READY answer makes the odometry reference
check, whose stall count at ODOM_CHECK_K sets ODOM_LOSS; a delta beyond MAX_TICKS is discarded; any other is
integrated along the midpoint heading and clamped to the map; each lowers a GOOD quality with its event. The
step's progress may complete the back-off, with DOCK UNDOCKED after an UNDOCK, or the ACTIVE record, which gives
way to the next, to IDLE, or to the approach of a pending yield (R27 to R31, R33, R34, R53, R55, R64, R118,
R137). The sine table has the properties and the selected entries of R26. The pose stamp of these events is
log entry 14; that no wheel is checked in DOCKED or FAULT whatever the DRIVE carried is log entry 25. -/
def Obligations.AnswerIntegratesTheStep : Prop :=
  ((∀ i, cosine i = sine (i + 256) ∧ sine (i + 512) = -sine i ∧ sine (i + 1024) = sine i) ∧
    (∀ i, i ≤ 512 → sine (512 - i) = sine i) ∧
    [0, 64, 128, 192, 256].map sine = [0, 6270, 11585, 15137, 16384]) ∧
  ∀ (s : State) (p : List Byte), s.phase = .running → p.length = 7 → s.drv.phase = .outstanding →
    (byteAt p 0).toNat = s.drv.exTag → s.TravelOk → s.ParamsOk →
    let ready := byteAt p 5 = 0
    ready ∨ byteAt p 5 = 1 ∧ s.drv.waits + 1 < s.paramNat .waitLimit →
    let left := unsignedAt p 1
    let right := unsignedAt p 3
    let t : State := { s.frameTaken .d 7 with drv := { s.drv with
      response := none, phase := .answered, misses := 0, waits := if ready then 0 else s.drv.waits + 1 } }
    match s.pose.base with
    | none => exec (.odom p) s = .next { t with pose := { s.pose with base := some (left, right) } }
    | some base =>
      let dl := (BitVec.ofInt 16 ((left : Int) - base.1)).toInt
      let dr := (BitVec.ofInt 16 ((right : Int) - base.2)).toInt
      let checked := ready ∧ s.trv.state ≠ .docked ∧ s.trv.state ≠ .fault
      let stall := fun (n : Nat) (sent d : Int) =>
        if ¬checked ∨ sent.natAbs < 50 then n else if d = 0 then n + 1 else 0
      let nl := stall s.pose.stallL s.drv.sentL dl
      let nr := stall s.pose.stallR s.drv.sentR dr
      let lossL := s.pose.stallL < nl ∧ s.paramNat .odomCheckK ≤ nl
      let lossR := s.pose.stallR < nr ∧ s.paramNat .odomCheckK ≤ nr
      let loss := lossL ∨ lossR
      let jump := s.paramNat .maxTicks < dl.natAbs ∨ s.paramNat .maxTicks < dr.natAbs
      let turn := (dr * s.param .tickR - dl * s.param .tickL) * 10430
      let ds := (dl * s.param .tickL + dr * s.param .tickR).tdiv 2
      let dh := turn.sign * ((2 * (turn.natAbs : Int) + s.param .track) / (2 * s.param .track))
      let i := ((s.pose.h + dh.tdiv 2) % 65536).toNat / 64
      let x := s.pose.x + ds * cosine i / 16384
      let y := s.pose.y + ds * sine i / 16384
      let edge := x < -12800000 ∨ 12799999 < x ∨ y < -12800000 ∨ 12799999 < y
      let pose : PoseUnit := { s.pose with
        base := some (left, right)
        stallL := if lossL then 0 else nl
        stallR := if lossR then 0 else nr
        quality := if s.pose.quality = .good ∧ (loss ∨ jump ∨ edge) then .degraded else s.pose.quality }
      let moved : PoseUnit := { pose with
        x := max (-12800000) (min 12799999 x), y := max (-12800000) (min 12799999 y)
        h := ((s.pose.h + dh) % 65536).toNat }
      let u : State := { t with pose := if jump then pose else moved }
      let u := if loss then (u.setLatch .odomLoss).raise (.poseDegraded .odomLoss) else u
      let u := if s.pose.quality = .good ∧ ¬loss ∧ jump then u.raise (.poseDegraded .odomJump)
        else if s.pose.quality = .good ∧ ¬loss ∧ edge then u.raise (.poseDegraded .mapEdge) else u
      exec (.odom p) s = .next (
        if jump then u
        else match s.trv.backoff, s.seg.queue with
          | some b, _ =>
            let b : Backoff := { b with progress := if ds < 0 then b.progress + ds.natAbs else b.progress }
            if 1000 * b.distance ≤ b.progress then
              let v := u.enter .idle
              let v : State := { v with trv := { v.trv with outcome := some (.completed, b.reason) } }
              if b.reason = .undock then v.raise .undocked else v
            else { u with trv := { s.trv with backoff := some b } }
          | none, g :: rest =>
            let g : Segment := { g with dist := g.dist + ds.natAbs, turn := g.turn + dh }
            if g.kind = .distance ∧ 1000 * g.extent ≤ g.dist ∨ g.kind = .angle ∧ g.extent ≤ g.turn.natAbs
            then u.segmentEnded g rest
            else { u with seg := { s.seg with queue := g :: rest } }
          | none, [] => u)

/-- An answer with status FAULT, the WAIT answer that reaches WAIT_LIMIT and the miss that reaches MISS_LIMIT
raise a drive fault outside FAULT and LOCKED: the state becomes FAULT, or LOCKED while the guard timer runs;
STOP_N goes low, a BRAKE is sent, the FAULT latch is set, the queue, yield, back-off and approach end, and the
last fault names kind and code (R118, R119, R120, R121, R124, R126, R127). -/
def Obligations.DriveFaultStopsTheRobot : Prop :=
  ∀ (s : State) (c : Instr) (kind : FaultKind) (code : Nat), s.phase = .running → s.ParamsOk →
    s.trv.state ≠ .fault → s.trv.state ≠ .locked →
    ((∃ p, c = .odom p ∧ p.length = 7 ∧ s.drv.phase = .outstanding ∧ (byteAt p 0).toNat = s.drv.exTag ∧
        (2 ≤ (byteAt p 5).toNat ∧ kind = .driveFault ∧ code = (byteAt p 6).toNat ∨
          byteAt p 5 = 1 ∧ s.paramNat .waitLimit ≤ s.drv.waits + 1 ∧ kind = .driveStuck ∧ code = 0)) ∨
      c = .responseTimerExpiry ∧ s.drv.response.isSome = true ∧
        s.paramNat .missLimit ≤ s.drv.misses + 1 ∧ kind = .driveLost ∧ code = 0) →
    ∃ t, exec c s = .next t ∧
      t.trv.state = (if s.drv.guard.isSome then .locked else .fault) ∧
      t.drv.stopN = false ∧ t.port.dTx = s.port.dTx ++ [{ kind := 0x41, payload := [] }] ∧
      t.rep.latches.getLsbD 10 = true ∧ t.drv.fault = some kind ∧ t.drv.faultCode = code ∧
      t.seg.queue = [] ∧ t.seg.cadence = none ∧ t.trv.yield = false ∧ t.trv.grace = none ∧
      t.trv.backoff = none ∧ t.dock.sub = .none_ ∧ t.map = s.map ∧ t.store = s.store ∧
      (s.drv.guard.isSome = true → t.drv.guard = none ∧ t.drv.period = none ∧ t.drv.response = none ∧
        t.drv.phase = .clear)

/-! ## The drive period (R54, R69 to R88, R115, R116) -/

/-- In HALTED, FAULT and DOCKED, and in APPROACH while the contact settles, a drive period sends zero speeds
and OFF brushes under the next tag, holds p at 0, and begins the exchange and the next interval, REST_PERIOD
long in DOCKED and 10 ms elsewhere (R73, R115, R116, R190). That it replaces an exchange still OUTSTANDING,
which no run reaches, is log entry 26. -/
def Obligations.ForcedStopSendsZero : Prop :=
  ∀ (s : State) (order : PeriodOrder), s.phase = .running → s.drv.period.isSome = true →
    s.seg.queue = [] → (s.trv.state = .halted ∨ s.trv.state = .fault ∨ s.trv.state = .docked ∨
      s.trv.state = .approach ∧ s.dock.sub = .settle) →
    exec (.drivePeriod order) s = .next { s with
      env := { p := 0, lastD := 1280, lastBound := 0, left := 0, right := 0 }
      port := { s.port with dTx := s.port.dTx ++
        [{ kind := 0x40, payload := [carry8 s.drv.nextTag, 0, 0, 0, 0, 0, 0] }] }
      drv := { s.drv with
        exTag := s.drv.nextTag, nextTag := (s.drv.nextTag + 1) % 16, phase := .outstanding
        response := some (s.paramNat .responseTimeout), sentL := 0, sentR := 0
        period := some ⟨if s.trv.state = .docked then s.paramNat .restPeriod else 10, 0⟩ } }

/-- A drive period begins the next interval, REST_PERIOD long in DOCKED and 10 ms elsewhere, and sends one DRIVE
frame with the speeds and brushes of its computation, which the envelope record keeps (R69, R70, R115, R116,
R190). A held record's held time rises by 10 ms, another's becomes 0; at HOLD_LIMIT the queue is aborted into
IDLE, a pending yield with DOCK FAILED, HALTED, or the back-off ends BLOCKED (R65, R87, R88, R136). The ACTIVE
record's elapsed time rises by 10 ms, and a TIME record that reaches its extent completes (R54, R55). Which half
comes first is the command's operand (log entry 4). That a period event replaces an exchange still OUTSTANDING,
which no run reaches, is log entry 26. -/
def Obligations.DrivePeriodPlaysItsComputation : Prop :=
  ∀ s : State, s.phase = .running → s.drv.period.isSome = true → s.TravelOk →
    let limit := s.paramNat .holdLimit
    let begun : State := { s with drv := { s.drv with
      period := some ⟨if s.trv.state = .docked then s.paramNat .restPeriod else 10, 0⟩ } }
    let sent := fun (u : State) =>
      let c := u.computation
      let payload := [carry8 u.drv.nextTag] ++ carry16 c.left ++ carry16 c.right ++
        [carry8 c.brush.number, carryFlag c.side]
      ({ u with
        env := { p := c.v, lastD := c.d, lastBound := c.bound, left := c.left, right := c.right }
        port := { u.port with dTx := u.port.dTx ++ [{ kind := 0x40, payload := payload }] }
        drv := { u.drv with
          exTag := u.drv.nextTag, nextTag := (u.drv.nextTag + 1) % 16, phase := .outstanding
          response := some (s.paramNat .responseTimeout), sentL := c.left, sentR := c.right } } : State)
    let judged := fun (u : State) (held : Bool) => match u.seg.queue, u.trv.backoff with
      | g :: rest, _ =>
        if held = true ∧ limit ≤ g.held + 10 then
          let v := u.enter .idle
          let v := ({ v with seg := { v.seg with queue := [] } } : State).raiseAll
            (abortEvents (g :: rest) .holdLimit)
          if u.trv.yield then v.raise (.dockFailed .halted) else v
        else { u with seg := { u.seg with
          queue := { g with held := if held then g.held + 10 else 0 } :: rest } }
      | [], some b =>
        if held = true ∧ limit ≤ b.held + 10 then
          let v := u.enter .idle
          { v with trv := { v.trv with outcome := some (.blocked, b.reason) } }
        else { u with trv := { u.trv with
          backoff := some { b with held := if held then b.held + 10 else 0 } } }
      | [], none => u
    let timed := fun (u : State) => match u.seg.queue with
      | [] => u
      | g :: rest =>
        let g : Segment := { g with elapsed := g.elapsed + 10 }
        if g.kind = .time ∧ g.extent ≤ g.elapsed then u.segmentEnded g rest
        else { u with seg := { u.seg with queue := g :: rest } }
    exec (.drivePeriod .envelopeFirst) s =
      .next (timed (judged (sent begun) begun.computation.held)) ∧
    exec (.drivePeriod .queueFirst) s =
      .next (judged (sent (timed begun)) (timed begun).computation.held)

/-- Every drive period sends one DRIVE frame, and the mean of its wheel speeds is no greater in magnitude than
the bound computed for it; it is not positive while any cliff sensor reads UNSAFE, and both speeds are 0 in
HALTED, FAULT and DOCKED (R85, R116). That it replaces an exchange still OUTSTANDING, which no run reaches, is
log entry 26. -/
def Obligations.WheelMeanWithinBound : Prop :=
  ∀ (s : State) (order : PeriodOrder), s.phase = .running → s.drv.period.isSome = true → s.TablesOk →
    ∃ t left right, exec (.drivePeriod order) s = .next t ∧
      (∃ brush side, t.port.dTx = s.port.dTx ++
        [⟨0x40, carry8 s.drv.nextTag :: carry16 left ++ carry16 right ++ [brush, side]⟩]) ∧
      t.drv.sentL = left ∧ t.drv.sentR = right ∧ -700 ≤ left ∧ left ≤ 700 ∧ -700 ≤ right ∧ right ≤ 700 ∧
      (left + right).natAbs ≤ 2 * t.env.lastBound.toNat ∧
      (s.haz.anyUnsafe = true → left + right ≤ 0) ∧
      (s.trv.state = .halted ∨ s.trv.state = .fault ∨ s.trv.state = .docked → left = 0 ∧ right = 0)

/-- The law speed is 0 up to MARGIN and the integer square root of 2 × DECEL × (d − MARGIN) beyond it, at most
2,244, which it is at d = 1,280 with DECEL 2,000 and MARGIN 20; it takes the seven values of the rule's table;
the bound of every computation that has a direction is at most the law speed of its d (R80). -/
def Obligations.LawSpeedIsTheStoppingLaw : Prop :=
  (∀ decel margin d : Int, 200 ≤ decel → decel ≤ 2000 → 20 ≤ margin → margin ≤ 200 → d ≤ 1280 →
    let law := lawSpeed decel margin d
    (d ≤ margin → law = 0) ∧
    (margin < d → 0 ≤ law ∧ law * law ≤ 2 * decel * (d - margin) ∧
      2 * decel * (d - margin) < (law + 1) * (law + 1)) ∧
    law ≤ 2244) ∧
  lawSpeed 2000 20 1280 = 2244 ∧
  ([1280, 460, 430, 100, 70, 60, 0] : List Int).map (lawSpeed 800 60) = [1397, 800, 769, 252, 126, 0, 0] ∧
  ∀ (s : State) (goal : Target),
    ramp (rampStep (s.param .accel)) (rampStep (s.param .decel)) s.env.p goal.v ≠ 0 →
    (s.compute goal).bound ≤ lawSpeed (s.param .decel) (s.param .margin) (s.compute goal).d

/-- The target is 0, 0 in IDLE, the ACTIVE record's v and w in CRUISE and LIMP, −BACKOFF_SPEED and 0 in BACKOFF;
in APPROACH a turn of SEEK_RATE in SEEK, and in ALIGN and CREEP what the codes, the Beacon Table's entry and
CREEP_SPEED give; the other states and SETTLE are forced stops (R72, R73, R140).
A computation with a target ramps p toward it, cuts the speed to the bound, keeps the ratio of turn and
travel, and splits the wheels about it (R74, R75, R83, R84, R85). With a direction, d is 1,280 or that of a
blocking sample of the three rays, and no blocking sample is nearer (R76 to R79); the bound is the least of the
terms that apply, and one of them (R80, R81, R82). The brushes are the lesser of the record's request and the
centre class's (R86). The record is held where the bound is 0 in the direction of its target (R87). That a
sample of a blocking class gives no cap at k = 0 too is log entry 12; that a sample off the map blocks where
class 0 does is log entry 13; that the brushes are OFF in CRUISE or LIMP with an empty queue, which no run
reaches, is log entry 26. -/
def Obligations.ComputationFollowsTheTargetWithinTheBound : Prop :=
  (∀ s : State,
    let dark := s.dock.codeL = .none_ ∧ s.dock.codeR = .none_
    let near := s.dock.codeL = .near ∧ s.dock.codeR = .near
    let place := 5 * s.dock.codeL.number + s.dock.codeR.number
    (s.trv.state = .idle → s.target = some ⟨0, 0⟩) ∧
    (s.trv.state = .cruise ∨ s.trv.state = .limp →
      ∀ g ∈ s.seg.queue.head?, s.target = some ⟨g.v, g.w⟩) ∧
    (s.trv.state = .backoff → s.target = some ⟨-s.param .backoffSpeed, 0⟩) ∧
    (s.trv.state = .approach ∧ s.dock.sub = .seek → s.target = some ⟨0, s.param .seekRate⟩) ∧
    (s.trv.state = .approach ∧ (s.dock.sub = .align ∨ s.dock.sub = .creep) →
      ∀ e ∈ s.dock.beacon.toList[place]?, s.target = some (
        if dark then ⟨0, 0⟩
        else if s.dock.sub = .align then ⟨e.v, e.w⟩
        else ⟨s.param .creepSpeed, if near then 0 else e.w⟩)) ∧
    (s.trv.state = .halted ∨ s.trv.state = .fault ∨ s.trv.state = .docked ∨
      s.trv.state = .approach ∧ s.dock.sub = .settle → s.target = none) ∧
    place < s.dock.beacon.toList.length) ∧
  ∀ (s : State) (goal : Target), s.TablesOk → s.target = some goal →
    let p := s.env.p
    let rise := max 1 (s.param .accel * 10 / 1000)
    let fall := max 1 (s.param .decel * 10 / 1000)
    let c := s.computation
    let q := (c.w * s.param .track).tdiv 2000000
    let limit := s.param .wheelMax
    let xmm := s.pose.x / 1000
    let ymm := s.pose.y / 1000
    let blocks := fun (cls : ClassNo) =>
      (s.map.record cls).blocks = true ∧ ¬(s.trv.state = .approach ∧ cls = 8)
    let centre := s.map.record (if s.pose.quality = .lost then 0 else s.map.classAt xmm ymm)
    (match s.trv.state, s.seg.queue with
      | .cruise, g :: _ | .limp, g :: _ =>
        c.brush = (if g.brush.number ≤ centre.brush.number then g.brush else centre.brush) ∧
        (c.side = true ↔ g.side = true ∧ centre.side = true)
      | _, _ => c.brush = .off ∧ c.side = false) ∧
    ∃ u : Int,
      (p = goal.v → u = p) ∧
      (0 < p → goal.v ≤ 0 → u = max (p - fall) 0) ∧ (p < 0 → 0 ≤ goal.v → u = min (p + fall) 0) ∧
      (0 ≤ p → p < goal.v → u = min (p + rise) goal.v) ∧
      (p ≤ 0 → goal.v < p → u = max (p - rise) goal.v) ∧
      (0 < goal.v → goal.v < p → u = max (p - fall) goal.v) ∧
      (goal.v < 0 → p < goal.v → u = min (p + fall) goal.v) ∧
      c.v = (if u = 0 then 0 else if (u.natAbs : Int) ≤ c.bound then u else u.sign * c.bound) ∧
      c.w = (if goal.v = 0 then goal.w else (goal.w * c.v).tdiv goal.v) ∧
      c.left = max (-limit) (min limit (c.v - q)) ∧ c.right = max (-limit) (min limit (c.v + q)) ∧
      (c.held = true ↔ goal.v ≠ 0 ∧ u ≠ 0 ∧ (0 < u ↔ 0 < goal.v) ∧ c.bound = 0) ∧
      (u = 0 → c.d = 1280 ∧ c.bound = 0) ∧
      (u ≠ 0 →
        let i := (if u < 0 then (s.pose.h + 32768) % 65536 else s.pose.h) / 64
        let ax := -s.param .halfWidth * sine i / 16384
        let ay := s.param .halfWidth * cosine i / 16384
        let law := lawSpeed (s.param .decel) (s.param .margin) c.d
        let sampled := fun (k : Nat) (cls : ClassNo) =>
          let dx := 10 * (k : Int) * cosine i / 16384
          let dy := 10 * (k : Int) * sine i / 16384
          cls = s.map.classAt (xmm + dx) (ymm + dy) ∨ cls = s.map.classAt (xmm + ax + dx) (ymm + ay + dy) ∨
          cls = s.map.classAt (xmm - ax + dx) (ymm - ay + dy)
        let capped := fun (cap : Int) => ∃ (k : Nat) (cls : ClassNo), s.pose.quality ≠ .lost ∧
          k ≤ s.paramNat .capHorizon / 10 ∧ sampled k cls ∧ ¬blocks cls ∧ cap = (s.map.record cls).cap
        let term := fun (b : Int) => b = law ∨ capped b ∨ u < 0 ∧ b = s.param .reverseCap ∨
          s.pose.quality = .degraded ∧ b = s.param .degradedCap ∨
          s.pose.quality = .lost ∧ b = s.param .lostCap ∨
          s.trv.state = .limp ∧ b = s.param .limpSpeed ∨ 0 < u ∧ s.haz.anyUnsafe = true ∧ b = 0
        let met := fun (k : Nat) => s.pose.quality ≠ .lost ∧ 1 ≤ k ∧ k ≤ 128 ∧
          ∃ cls, sampled k cls ∧ blocks cls
        0 ≤ c.bound ∧ term c.bound ∧ (∀ b, term b → c.bound ≤ b) ∧
        (c.d = 1280 ∧ (∀ k, ¬met k) ∨ ∃ k, met k ∧ c.d = 10 * ((k : Int) - 1)) ∧
        ∀ k, met k → c.d ≤ 10 * ((k : Int) - 1))

/-! ## Sensing (R93 to R109, R131 to R143, R172) -/

/-- A SENSE frame that makes no edge restarts the sensor-loss timer, ends a silence, counts a gap, moves each
cliff level by its threshold and release level, records the switches, hands the dock inputs on, and is
forwarded if it is due (R94, R95, R98, R99, R104, R106, R108, R132). A frame is due when the forwarding count
reaches FORWARD_DECIM, and the count returns to 0; a due or flagged frame becomes a SENSE_UP frame of 24 bytes,
stamped with pose, state and centre class, where the output queue holds fewer than 12 frames, and is counted in
FORWARD_SKIP otherwise (R172, R181, R189). A sensor's point is the pose's plus its SENSOR_FWD and SENSOR_LAT
turned by h; its threshold is the cliff threshold of the class a map lookup of that point returns, or of class 0
where the pose is LOST or the point off the map (R3, R98). -/
def Obligations.QuietFrameMovesTheLevels : Prop :=
  (∀ (s : State) (p : List Byte), s.phase = .running → p.length = 16 →
    let f := SenseFields.read p
    s.haz.NoDropEdge f → s.haz.NoBumpEdge f → (∀ sensor, s.NoCliffEdge f sensor) →
    exec (.sense p) s = .next (((s.levelsMoved f).takeDockInputs f).forward f false)) ∧
  (∀ (s : State) (f : SenseFields) (flag : Bool),
    let n := s.paramNat .forwardDecim
    let due := n ≠ 0 ∧ n ≤ s.rep.fwd + 1
    let t : State := { s with rep := { s.rep with
      fwd := if n = 0 then s.rep.fwd else if due then 0 else s.rep.fwd + 1 } }
    let payload := [carry8 f.seq] ++ carry16 f.fl ++ carry16 f.fr ++ carry16 f.sl ++ carry16 f.sr ++
      [carryFlag f.bumpL, carryFlag f.bumpR, carryFlag f.dropL, carryFlag f.dropR, carry8 f.codeL.number,
       carry8 f.codeR.number, carryFlag f.contact] ++
      carry16 (s.pose.x / 1000) ++ carry16 (s.pose.y / 1000) ++ carry16 s.pose.h ++
      [carry8 s.trv.state.number, carry8 (s.map.classAt (s.pose.x / 1000) (s.pose.y / 1000)).val]
    payload.length = 24 ∧
    s.forward f flag =
      (if due ∨ flag = true then
        if s.queued < 12 then t.pushUp { kind := 0x83, payload := payload } else t.count .forwardSkip 1
      else t)) ∧
  (∀ (s : State) (sensor : Sensor),
    let i := s.pose.h / 64
    let fwd := s.param (match sensor with | .fl => .fwdFL | .fr => .fwdFR | .sl => .fwdSL | .sr => .fwdSR)
    let lat := s.param (match sensor with | .fl => .latFL | .fr => .latFR | .sl => .latSL | .sr => .latSR)
    let px := s.pose.x / 1000 + (fwd * cosine i - lat * sine i) / 16384
    let py := s.pose.y / 1000 + (fwd * sine i + lat * cosine i) / 16384
    s.projected sensor = (px, py) ∧
    s.threshold sensor =
      (s.map.record (if s.pose.quality = .lost then 0 else s.map.classAt px py)).cliff) ∧
  ∀ (m : TileMap) (x y : Int),
    let tx := ((x + 12800) / 100).toNat
    let ty := ((y + 12800) / 100).toNat
    let place := 256 * (ty / 16 * 16 + tx / 16) + (ty % 16 * 16 + tx % 16)
    if -12800 ≤ x ∧ x ≤ 12799 ∧ -12800 ≤ y ∧ y ≤ 12799 then
      pointTile x y = some (tx, ty) ∧ (m.classAt x y).val = (m.tiles.read place).toNat % 16
    else pointTile x y = none ∧ m.classAt x y = 0

/-- A wheel-drop edge sets its latch and loses the pose, and halts the robot unless it is halted, in FAULT or
locked; the first cliff edge of a frame spends its gate, sets its latch, marks its tile unless the pose is LOST
or the robot DOCKED, and halts a robot in a moving state. A halt sends one BRAKE, empties the queue and ends
yield, back-off and approach. The frame is flagged for forwarding (R95, R96, R97, R100, R101, R102, R104, R105).
A frame whose only edge is that one is given exactly: HAZARD WHEEL_DROP with its side, then POSE LOST unless the
pose was LOST, or HAZARD CLIFF with its sensor and then the mark, OBSERVED_MARKS and the page's joining the save
list; then the BRAKE, SEGMENT ABORTED per record, and DOCK FAILED of the halt (R36, R45, R96, R100, R102, R105,
R151). A later sensor of the frame is judged by the map as marked (R98). -/
def Obligations.HazardEdgesHaltTheRobot : Prop :=
  (∀ (s : State) (p : List Byte), s.phase = .running → p.length = 16 → s.MemoryOk →
    let f := SenseFields.read p
    let halted := fun (t : State) =>
      t.trv.state = .halted ∧ t.seg.queue = [] ∧ t.seg.cadence = none ∧ t.trv.yield = false ∧
      t.trv.grace = none ∧ t.trv.backoff = none ∧ t.dock.sub = .none_ ∧
      t.port.dTx = s.port.dTx ++ [{ kind := 0x41, payload := [] }]
    (¬s.haz.NoDropEdge f → ∃ t, exec (.sense p) s = .next t ∧ (∃ u : State, t = u.forward f true) ∧
      t.rep.latches.getLsbD 6 = true ∧ t.pose = { s.pose with quality := .lost } ∧ t.map = s.map ∧
      (s.trv.state = .halted ∨ s.trv.state = .fault ∨ s.trv.state = .locked →
        t.trv = s.trv ∧ t.port.dTx = s.port.dTx) ∧
      (¬(s.trv.state = .halted ∨ s.trv.state = .fault ∨ s.trv.state = .locked) → halted t)) ∧
    ∀ sensor, s.haz.NoDropEdge f → s.CliffEdge f sensor →
      (∀ other : Sensor, other.number < sensor.number → s.NoCliffEdge f other) →
      ∃ t, exec (.sense p) s = .next t ∧ (∃ u : State, t = u.forward f true) ∧
        t.haz.sensor sensor = ⟨.unsafe_, .spent⟩ ∧ t.rep.latches.getLsbD sensor.latch.position = true ∧
        (s.trv.state.moving = true → halted t) ∧
        (s.trv.state = .docked ∨ s.pose.quality = .lost → t.map = s.map) ∧
        ∀ tx ty, s.trv.state ≠ .docked → s.pose.quality ≠ .lost →
          pointTile (s.projected sensor).1 (s.projected sensor).2 = some (tx, ty) →
          let old := s.map.tile tx ty
          let new := t.map.tile tx ty
          tileClass new = 6 ∧ tileObserved new = true ∧
          (if tileObserved old = true then min (tileCount old + 1) 3 else 1) ≤ tileCount new ∧
          (t.map.dirty[tilePage tx ty] = true ∨
            ∃ c, t.store.current = some c ∧ c.page = tilePage tx ty)) ∧
  (∀ (s : State) (p : List Byte), s.phase = .running → p.length = 16 →
    let f := SenseFields.read p
    let lost : State := { s with pose := { s.pose with quality := .lost } }
    ¬s.haz.NoDropEdge f → s.haz.NoBumpEdge f → (∀ sensor, lost.NoCliffEdge f sensor) →
    let left := f.dropL = true ∧ s.haz.dropL = false
    let right := f.dropR = true ∧ s.haz.dropR = false
    let side := if left ∧ right then 2 else if left then 0 else 1
    let moved : State := { lost.levelsMoved f with pose := s.pose }
    let t := (moved.setLatch .wheelDrop).raise (.wheelDrop side)
    let t := if s.pose.quality = .lost then t else ({ t with pose := lost.pose } : State).raise .poseLost
    let t := if s.trv.state = .halted ∨ s.trv.state = .fault ∨ s.trv.state = .locked then t
      else t.haltTaken .wheelDrop .wheelDrop
    exec (.sense p) s = .next ((t.takeDockInputs f).forward f true)) ∧
  ∀ (s : State) (p : List Byte) (sensor : Sensor), s.phase = .running → p.length = 16 →
    let f := SenseFields.read p
    let spot := if s.pose.quality = .lost ∨ s.trv.state = .docked then none
      else pointTile (s.projected sensor).1 (s.projected sensor).2
    let mark := fun (u : State) => match spot with
      | none => u
      | some (tx, ty) => u.tileMarked tx ty
    let judge := fun (other : Sensor) =>
      if other.number ≤ sensor.number then s else { s with map := (mark s).map }
    s.haz.NoDropEdge f → s.haz.NoBumpEdge f → s.CliffEdge f sensor →
    (∀ other, other ≠ sensor → (judge other).NoCliffEdge f other) →
    let u := s.levelsMoved f
    let moved : State := { u with haz := { u.haz with
      fl := (judge .fl).levelMoved f .fl, fr := (judge .fr).levelMoved f .fr
      sl := (judge .sl).levelMoved f .sl, sr := (judge .sr).levelMoved f .sr } }
    let t := mark ((moved.setLatch sensor.latch).raise (.cliff sensor))
    let t := if s.trv.state = .halted ∨ s.trv.state = .docked ∨ s.trv.state = .fault ∨ s.trv.state = .locked
      then t else t.haltTaken .cliff .cliff
    exec (.sense p) s = .next ((t.takeDockInputs f).forward f true)

/-- A bump edge sets its side's latch, whatever else the frame brings (R106, R168). In a frame without another
edge it raises CONTACT BUMP, left before right, and with BUMP_REACT on it aborts the queue in CRUISE and LIMP,
ends a yield there and an approach in SEEK and ALIGN with DOCK FAILED, BUMP, and starts a back-off of
BACKOFF_DIST; elsewhere it has no reaction. The frame is flagged for forwarding (R63, R95, R106, R107, R136,
R144). -/
def Obligations.BumpEdgesStartABackoff : Prop :=
  ∀ (s : State) (p : List Byte), s.phase = .running → p.length = 16 →
    let f := SenseFields.read p
    let left := f.bumpL = true ∧ s.haz.bumpL = false
    let right := f.bumpR = true ∧ s.haz.bumpR = false
    (left ∨ right → ∃ t, exec (.sense p) s = .next t ∧
      (left → t.rep.latches.getLsbD 4 = true) ∧ (right → t.rep.latches.getLsbD 5 = true)) ∧
    (left ∨ right → s.haz.NoDropEdge f → (∀ sensor, s.NoCliffEdge f sensor) →
      let t := s.levelsMoved f
      let t := if left then (t.setLatch .bumpL).raise (.bump 0) else t
      let t := if right then (t.setLatch .bumpR).raise (.bump 1) else t
      let backed := fun (u : State) =>
        let v := u.enter .backoff
        ({ v with trv := { v.trv with
          backoff := some ⟨.bump, s.paramNat .backoffDist, 0, 0⟩ } } : State)
      let u :=
        if s.paramNat .bumpReact ≠ 1 then t
        else if s.trv.state = .cruise ∨ s.trv.state = .limp then
          let v := backed (({ t with seg := { s.seg with queue := [] } } : State).raiseAll
            (abortEvents s.seg.queue .bump))
          if s.trv.yield then v.raise (.dockFailed .bump) else v
        else if s.trv.state = .approach ∧ (s.dock.sub = .seek ∨ s.dock.sub = .align) then
          (backed t).raise (.dockFailed .bump)
        else t
      exec (.sense p) s = .next ((u.takeDockInputs f).forward f true))

/-- Outside APPROACH a contact that closes in IDLE docks the robot at the dock pose with quality GOOD, with DOCK
DOCKED and then POSE RESTORED, and one that opens in DOCKED gives IDLE and lowers a GOOD quality, with DOCK
CONTACT_LOST (R35, R37, R133); any other frame there only records codes and contact. In APPROACH a contact enters
SETTLE, its loss returns to CREEP with DOCK CREEP, a code found in SEEK enters ALIGN with DOCK BEAM_FOUND and NEAR
on both in ALIGN enters CREEP with DOCK CREEP; the beam-lost timer then runs in ALIGN and CREEP exactly while both
codes are NONE, a stopped one starting with BEAM_LOST and a running one running on (R132, R141, R142, R143). A
change of travel state stops what runs only in other states and cuts the rest interval of DOCKED (R57, R59, R62,
R63, R115, R144). That p stands where DOCKED or SETTLE is left before a computation was taken there is log entry
30. -/
def Obligations.DockInputsDockAndSteer : Prop :=
  (∀ (s : State) (f : SenseFields),
    let t := s.takeDockInputs f
    let seen : State := { s with dock := { s.dock with
      codeL := f.codeL, codeR := f.codeR, contact := f.contact } }
    let dark := f.codeL = .none_ ∧ f.codeR = .none_
    let near := f.codeL = .near ∧ f.codeR = .near
    (s.trv.state = .idle → s.dock.contact = false → f.contact = true →
      t = (({ seen.enter .docked with pose := { s.pose with
        x := s.param .dockX, y := s.param .dockY, h := (s.param .dockH).toNat, quality := .good
        stallL := 0, stallR := 0 } } : State).raise .docked).raise .poseRestored) ∧
    (s.trv.state = .docked → s.dock.contact = true → f.contact = false →
      t = ({ seen.enter .idle with pose := { s.pose with
        quality := if s.pose.quality = .good then .degraded else s.pose.quality } } : State).raise
          .contactLost) ∧
    (s.trv.state ≠ .approach → ¬(s.trv.state = .idle ∧ s.dock.contact = false ∧ f.contact = true) →
      ¬(s.trv.state = .docked ∧ s.dock.contact = true ∧ f.contact = false) → t = seen) ∧
    (s.trv.state = .approach →
      let sub : Substate := match s.dock.sub, f.contact with
        | .seek, true => .settle
        | .align, true => .settle
        | .creep, true => .settle
        | .settle, false => .creep
        | .seek, false => if dark then .seek else .align
        | .align, false => if near then .creep else .align
        | other, _ => other
      let settle : Timer := match s.dock.sub, f.contact with
        | .seek, true => some (s.paramNat .contactSettle)
        | .align, true => some (s.paramNat .contactSettle)
        | .creep, true => some (s.paramNat .contactSettle)
        | .settle, false => none
        | _, _ => s.dock.settle
      let beamLost : Timer := if (sub = .align ∨ sub = .creep) ∧ dark then
          match s.dock.beamLost with
          | none => some (s.paramNat .beamLost)
          | some n => some n
        else none
      let u : State := { seen with dock := { seen.dock with
        sub := sub, settle := settle, beamLost := beamLost } }
      t = if sub = s.dock.sub ∨ sub = .settle then u
        else if sub = .align then u.raise .beamFound
        else u.raise .dockCreep)) ∧
  ∀ (s : State) (u : Travel),
    s.enter u = { s with
      trv := { s.trv with
        state := u
        yield := if u = .cruise then s.trv.yield else false
        grace := if u = .limp then s.trv.grace else none
        backoff := if u = .backoff then s.trv.backoff else none }
      seg := { s.seg with cadence := if u = .cruise then s.seg.cadence else none }
      dock := if u = .approach then s.dock
        else { s.dock with sub := .none_, approach := none, beamLost := none, settle := none }
      drv := { s.drv with period := if s.trv.state = .docked ∧ u ≠ .docked
        then s.drv.period.map (fun i => { i with length := 10 }) else s.drv.period } }

/-! ## Timers (R58, R59, R61, R109, R142, R143, R144, R171) -/

/-- A cadence expiry raises CADENCE LOST and then, under STOP or with no grace, aborts the queue with reason
CADENCE into IDLE, and under LIMP enters LIMP with the grace timer running, the queue kept (R58, R59). A grace
expiry aborts the queue with reason CADENCE into IDLE and raises no second CADENCE LOST (R61). That the detail
is the policy as it stands even where LIMP has no grace is log entry 21. -/
def Obligations.CadenceAndGraceExpire : Prop :=
  ∀ s : State, s.phase = .running →
    let grace := s.paramNat .limpGrace
    let lost := s.raise (.cadenceLost (s.paramNat .cadencePolicy))
    let emptied := fun (t : State) =>
      (({ t with seg := { t.seg with queue := [] } } : State).raiseAll
        (abortEvents s.seg.queue .cadence)).enter .idle
    (s.seg.cadence.isSome = true → ¬(s.paramNat .cadencePolicy = 1 ∧ 0 < grace) →
      exec .cadenceExpiry s = .next (emptied lost)) ∧
    (s.seg.cadence.isSome = true → s.trv.state = .cruise → s.trv.yield = false → s.dock.sub = .none_ →
      s.dock.approach = none → s.dock.beamLost = none → s.dock.settle = none → s.trv.backoff = none →
      s.paramNat .cadencePolicy = 1 → 0 < grace →
      exec .cadenceExpiry s = .next { lost with
        trv := { s.trv with state := .limp, grace := some grace }
        seg := { s.seg with cadence := none } }) ∧
    (s.trv.grace.isSome = true → exec .limpGraceExpiry s = .next (emptied s))

/-- A sensor-loss expiry restarts its timer and makes the link silent. In a moving state it sets the
SENSOR_LOST latch, raises HAZARD SENSOR_LOST and halts; in HALTED it sets and raises them unless the link was
silent already; elsewhere it does nothing more (R108, R109; in FAULT against a row of R128, log entry 28). -/
def Obligations.SensorLossHaltsOrIsRecorded : Prop :=
  ∀ s : State, s.phase = .running → s.haz.loss.isSome = true →
    let z := { s.haz with loss := some (s.paramNat .senseTimeout) }
    let t : State := { s with haz := z }
    let reported := (t.setLatch .sensorLost).raise .sensorLost
    let u : State :=
      if s.trv.state = .halted then if s.haz.silent then t else reported
      else if s.trv.state = .docked ∨ s.trv.state = .fault ∨ s.trv.state = .locked then t
      else reported.halt .sensorLost
    exec .sensorLossExpiry s = .next { u with haz := { z with silent := true } }

/-- The approach expiry ends the approach in IDLE with DOCK FAILED, TIMEOUT (R144); the beam-lost expiry
returns to SEEK with DOCK BEAM_LOST naming the substate left (R142); the settle expiry docks the robot at the
dock pose, quality GOOD, with DOCK DOCKED and then POSE RESTORED (R37, R143). That the approach expiry leaves p as
it stands, where no computation was taken in SETTLE, is log entry 30. -/
def Obligations.ApproachTimersExpire : Prop :=
  ∀ s : State, s.phase = .running →
    (s.dock.approach.isSome = true →
      exec .approachTimerExpiry s = .next ((s.enter .idle).raise (.dockFailed .timeout))) ∧
    (s.dock.beamLost.isSome = true →
      exec .beamLostExpiry s = .next (({ s with
        dock := { s.dock with sub := .seek, beamLost := none } } : State).raise (.beamLost s.dock.sub))) ∧
    (s.dock.settle.isSome = true →
      exec .settleExpiry s = .next ((({ s.enter .docked with
        pose := { s.pose with
          x := s.param .dockX, y := s.param .dockY, h := (s.param .dockH).toNat
          quality := .good, stallL := 0, stallR := 0 } } : State).raise .docked).raise .poseRestored))

/-- A telemetry expiry queues a TELE frame of 33 bytes composed from the state as it stands where the output
queue holds fewer than 12 frames, and counts TELE_SKIP otherwise; the timer restarts with TELE_PERIOD × 10 ms,
or stops at 0 (R171, R181, R189). How a progress that does not fit its 4-byte field is carried is a free value
(log entry 11). -/
def Obligations.TelemetrySendsOrSkips : Prop :=
  ∀ s : State, s.phase = .running → s.rep.tele.isSome = true →
    let progress := match s.seg.queue with
      | [] => [0] ++ carryCount 0
      | g :: _ => [carry8 g.tag] ++ carryCount (match g.kind with
        | .distance => g.dist
        | .angle => g.turn.natAbs
        | .time => g.elapsed)
    let payload := carry32 s.rep.timebase ++ carry32 s.pose.x ++ carry32 s.pose.y ++ carry16 s.pose.h ++
      [carry8 s.pose.quality.number, carry8 s.trv.state.number, carry8 s.dock.sub.number,
       carry8 s.seg.queue.length] ++ progress ++ carry16 s.env.lastBound ++ carry16 s.env.lastD ++
      carry16 s.env.left ++ carry16 s.env.right ++ bytes16 (s.rep.latches.setWidth 16)
    let t := if s.queued < 12 then s.pushUp { kind := 0x82, payload := payload } else s.count .teleSkip 1
    exec .telemetryExpiry s = .next { t with rep := { t.rep with
      tele := if s.paramNat .telePeriod = 0 then none else some (10 * s.paramNat .telePeriod) } } ∧
    payload.length = 33

end
end

