-- ==== Sys2Proof/Laws/Memory.lean ====
section
/-! SUPPORT. The laws of the sparse tables: read after write, the canonical form kept, equal reads are equal data. -/

namespace Sys2Proof.Machine

/-! ## Sparse tables -/

section

variable {β : Type} [DecidableEq β] {d : β}

theorem tableWfFrom_cons {lo k : Nat} {v : β} {m : List (Nat × β)} :
    tableWfFrom d lo ((k, v) :: m) = true ↔ lo ≤ k ∧ v ≠ d ∧ tableWfFrom d (k + 1) m = true := by
  simp [tableWfFrom, and_assoc]

/-- A table in its form from `lo` on is in its form from any smaller number on. -/
theorem tableWfFrom_weaken {lo lo' : Nat} (h : lo' ≤ lo) :
    ∀ {m : List (Nat × β)}, tableWfFrom d lo m = true → tableWfFrom d lo' m = true
  | [], _ => rfl
  | (k, v) :: m, hm => by
    obtain ⟨hk, hv, hr⟩ := tableWfFrom_cons.mp hm
    exact tableWfFrom_cons.mpr ⟨h.trans hk, hv, hr⟩

/-- Below its first key a table holds the default. -/
theorem tableGet_below {a : Nat} :
    ∀ {lo : Nat} {m : List (Nat × β)}, tableWfFrom d lo m = true → a < lo → tableGet d m a = d
  | _, [], _, _ => rfl
  | lo, (k, v) :: m, hm, ha => by
    obtain ⟨hk, -, hr⟩ := tableWfFrom_cons.mp hm
    rw [tableGet, if_neg (by omega)]
    exact tableGet_below hr (by omega)

/-- A key that takes a value holds it. -/
theorem tableGet_put_same {a : Nat} {b : β} :
    ∀ {lo : Nat} {m : List (Nat × β)}, tableWfFrom d lo m = true → tableGet d (tablePut d a b m) a = b
  | _, [], _ => by
    rw [tablePut]; split
    · simp_all [tableGet]
    · simp [tableGet]
  | lo, (k, v) :: m, hm => by
    obtain ⟨hk, hv, hr⟩ := tableWfFrom_cons.mp hm
    rw [tablePut]; split
    · split
      · rename_i hak hb
        rw [tableGet, if_neg (by omega), tableGet_below hr (by omega), hb]
      · simp [tableGet]
    · split
      · rename_i hak
        subst hak
        split
        · rename_i hb; rw [tableGet_below hr (by omega), hb]
        · simp [tableGet]
      · rw [tableGet, if_neg (by omega)]
        exact tableGet_put_same hr

/-- Every other key holds what it held. -/
theorem tableGet_put_other {a c : Nat} {b : β} (h : c ≠ a) :
    ∀ m : List (Nat × β), tableGet d (tablePut d a b m) c = tableGet d m c
  | [] => by
    rw [tablePut]; split
    · rfl
    · simp [tableGet, h.symm]
  | (k, v) :: m => by
    rw [tablePut]
    repeat' split
    · rfl
    · simp [tableGet, h.symm]
    · rename_i hk _; subst hk; simp [tableGet, h.symm]
    · rename_i hk _; subst hk; simp [tableGet, h.symm]
    · simp only [tableGet, tableGet_put_other h m]

/-- A write keeps the canonical form. -/
theorem tablePut_wf {a : Nat} {b : β} :
    ∀ {lo : Nat} {m : List (Nat × β)}, lo ≤ a → tableWfFrom d lo m = true →
      tableWfFrom d lo (tablePut d a b m) = true
  | lo, [], ha, _ => by
    rw [tablePut]; split
    · rfl
    · exact tableWfFrom_cons.mpr ⟨ha, ‹_›, rfl⟩
  | lo, (k, v) :: m, ha, hm => by
    obtain ⟨hk, hv, hr⟩ := tableWfFrom_cons.mp hm
    rw [tablePut]
    repeat' split
    · exact hm
    · exact tableWfFrom_cons.mpr ⟨ha, ‹_›, tableWfFrom_cons.mpr ⟨by omega, hv, hr⟩⟩
    · exact tableWfFrom_weaken (by omega) hr
    · exact tableWfFrom_cons.mpr ⟨ha, ‹_›, by simp_all⟩
    · exact tableWfFrom_cons.mpr ⟨hk, hv, tablePut_wf (by omega) hr⟩

/-- What a write lists was listed before, or is the entry written. -/
theorem mem_tablePut {a : Nat} {b : β} {e : Nat × β} :
    ∀ {m : List (Nat × β)}, e ∈ tablePut d a b m → e = (a, b) ∧ b ≠ d ∨ e ∈ m
  | [], h => by
    rw [tablePut] at h; split at h
    · simp at h
    · exact .inl ⟨by simpa using h, ‹_›⟩
  | (k, v) :: m, h => by
    rw [tablePut] at h
    split at h
    · split at h
      · exact .inr h
      · rcases List.mem_cons.mp h with h | h
        · exact .inl ⟨h, ‹_›⟩
        · exact .inr h
    · split at h
      · split at h
        · exact .inr (List.mem_cons_of_mem _ h)
        · rcases List.mem_cons.mp h with h | h
          · exact .inl ⟨h, ‹_›⟩
          · exact .inr (List.mem_cons_of_mem _ h)
      · rcases List.mem_cons.mp h with h | h
        · exact .inr (h ▸ List.mem_cons_self)
        · exact (mem_tablePut h).imp_right (List.mem_cons_of_mem _)

/-- What a table in its form lists is what its key holds. -/
theorem tableGet_of_mem {e : Nat × β} :
    ∀ {lo : Nat} {m : List (Nat × β)}, tableWfFrom d lo m = true → e ∈ m →
      lo ≤ e.1 ∧ e.2 ≠ d ∧ tableGet d m e.1 = e.2
  | _, [], _, h => by simp at h
  | lo, (k, v) :: m, hm, h => by
    obtain ⟨hk, hv, hr⟩ := tableWfFrom_cons.mp hm
    rcases List.mem_cons.mp h with rfl | h
    · exact ⟨hk, hv, by simp [tableGet]⟩
    · obtain ⟨h1, h2, h3⟩ := tableGet_of_mem hr h
      exact ⟨by omega, h2, by rw [tableGet, if_neg (by omega), h3]⟩

omit [DecidableEq β] in
/-- A key holds the default or is listed with its value. -/
theorem tableGet_mem (a : Nat) : ∀ m : List (Nat × β), tableGet d m a = d ∨ (a, tableGet d m a) ∈ m
  | [] => .inl rfl
  | (k, v) :: m => by
    by_cases h : k = a
    · subst h; exact .inr (by simp [tableGet])
    · rw [tableGet, if_neg h]
      exact (tableGet_mem a m).imp_right (List.mem_cons_of_mem _)

/-- Tables in their form that hold the same everywhere are the same data. -/
theorem tableGet_ext :
    ∀ {lo : Nat} {m n : List (Nat × β)}, tableWfFrom d lo m = true → tableWfFrom d lo n = true →
      (∀ a, tableGet d m a = tableGet d n a) → m = n
  | _, [], [], _, _, _ => rfl
  | _, [], (k, v) :: n, _, hn, h => by
    obtain ⟨-, hv, -⟩ := tableWfFrom_cons.mp hn
    exact absurd (by simpa [tableGet] using (h k).symm) hv
  | _, (k, v) :: m, [], hm, _, h => by
    obtain ⟨-, hv, -⟩ := tableWfFrom_cons.mp hm
    exact absurd (by simpa [tableGet] using h k) hv
  | lo, (k, v) :: m, (l, w) :: n, hm, hn, h => by
    obtain ⟨hk, hv, hr⟩ := tableWfFrom_cons.mp hm
    obtain ⟨hl, hw, hs⟩ := tableWfFrom_cons.mp hn
    have hkl : k = l := by
      rcases Nat.lt_trichotomy k l with hlt | heq | hlt
      · have := h k
        rw [tableGet, if_pos rfl, tableGet, if_neg (by omega), tableGet_below hs (by omega)] at this
        exact absurd this hv
      · exact heq
      · have := h l
        rw [tableGet, if_neg (by omega), tableGet_below hr (by omega), tableGet, if_pos rfl] at this
        exact absurd this.symm hw
    subst hkl
    have hvw : v = w := by simpa [tableGet] using h k
    subst hvw
    congr 1
    refine tableGet_ext hr hs fun a => ?_
    rcases Nat.lt_or_ge k a with ha | ha
    · simpa [tableGet, Nat.ne_of_lt ha] using h a
    · rw [tableGet_below hr (by omega), tableGet_below hs (by omega)]

/-- Two tables one after the other. -/
theorem tableWfFrom_append {mid : Nat} {n : List (Nat × β)} (hn : tableWfFrom d mid n = true) :
    ∀ {lo : Nat} {m : List (Nat × β)}, lo ≤ mid → tableWfFrom d lo m = true → (∀ e ∈ m, e.1 < mid) →
      tableWfFrom d lo (m ++ n) = true
  | _, [], hlo, _, _ => tableWfFrom_weaken hlo hn
  | lo, (k, v) :: m, hlo, hm, hb => by
    obtain ⟨hk, hv, hr⟩ := tableWfFrom_cons.mp hm
    have := hb (k, v) List.mem_cons_self
    exact tableWfFrom_cons.mpr ⟨hk, hv,
      tableWfFrom_append hn (by simpa using this) hr fun e he => hb e (List.mem_cons_of_mem _ he)⟩

/-- A table shifted by a constant. -/
theorem tableWfFrom_shift (k : Nat) :
    ∀ {lo : Nat} {m : List (Nat × β)}, tableWfFrom d lo m = true →
      tableWfFrom d (k + lo) (m.map (fun e => (k + e.1, e.2))) = true
  | _, [], _ => rfl
  | lo, (j, v) :: m, hm => by
    obtain ⟨hj, hv, hr⟩ := tableWfFrom_cons.mp hm
    exact tableWfFrom_cons.mpr ⟨by simpa using hj, hv, tableWfFrom_shift k hr⟩

end

/-! ## Memories -/

theorem Memory.read_write_same {m : Memory} (h : m.wf = true) (a : Nat) (b : Byte) :
    (m.write a b).read a = b := tableGet_put_same h

theorem Memory.read_write_other (m : Memory) {a c : Nat} (h : c ≠ a) (b : Byte) :
    (m.write a b).read c = m.read c := tableGet_put_other h m

theorem Memory.write_wf {m : Memory} (h : m.wf = true) (a : Nat) (b : Byte) : (m.write a b).wf = true :=
  tablePut_wf (Nat.zero_le a) h

/-- Memories in their form that read the same everywhere are the same data. -/
theorem Memory.ext_read {m n : Memory} (hm : m.wf = true) (hn : n.wf = true)
    (h : ∀ a, m.read a = n.read a) : m = n := tableGet_ext hm hn h

theorem Memory.write_within {m : Memory} {size a : Nat} (h : m.Within size) (ha : a < size) (b : Byte) :
    (m.write a b).Within size := by
  refine ⟨Memory.write_wf h.1 a b, fun e he => ?_⟩
  rcases mem_tablePut he with ⟨rfl, -⟩ | he
  · exact ha
  · exact h.2 e he

theorem Memory.nil_within (size : Nat) : Memory.Within [] size :=
  ⟨rfl, fun _ he => absurd he List.not_mem_nil⟩

/-! ## The tiles (R2, R4) -/

theorem tileAddress_lt (tx ty : Nat) : tileAddress tx ty < 65536 := by
  have := (tilePage tx ty).isLt
  simp only [tileAddress]
  omega

/-- Two tiles on the map have two addresses (R2). -/
theorem tileAddress_inj {tx ty ux uy : Nat} (hx : tx < 256) (hy : ty < 256) (hu : ux < 256) (hv : uy < 256)
    (h : tileAddress tx ty = tileAddress ux uy) : tx = ux ∧ ty = uy := by
  simp only [tileAddress, tilePage] at h
  omega

/-- A write of a well-formed record keeps the tiles in their form (R4). -/
theorem TileMap.writeTile_ok {m : TileMap} (h : m.Ok) (tx ty : Nat) {b : Byte} (hb : tileRecordOk b = true) :
    (m.writeTile tx ty b).Ok := by
  refine ⟨Memory.write_within h.1 (tileAddress_lt tx ty) b, fun e he => ?_⟩
  rcases mem_tablePut he with ⟨rfl, -⟩ | he
  · exact hb
  · exact h.2 e he

theorem TileMap.tile_writeTile_same {m : TileMap} (h : m.Ok) (tx ty : Nat) (b : Byte) :
    (m.writeTile tx ty b).tile tx ty = b := Memory.read_write_same h.1.1 _ b

theorem TileMap.tile_writeTile_other (m : TileMap) {tx ty ux uy : Nat} (hx : tx < 256) (hy : ty < 256)
    (hu : ux < 256) (hv : uy < 256) (h : ¬(ux = tx ∧ uy = ty)) (b : Byte) :
    (m.writeTile tx ty b).tile ux uy = m.tile ux uy :=
  Memory.read_write_other m.tiles (fun he => h (tileAddress_inj hu hv hx hy he)) b

theorem loadedTile_ok : ∀ c : ClassNo, tileRecordOk (loadedTile c) = true := by decide

theorem observedTile_ok : ∀ n : Fin 4, n ≠ 0 → tileRecordOk (observedTile n) = true := by decide

/-- A page's bytes, by position, are in their form (R2, R153). -/
theorem pageBytes_within {tiles : Memory} (h : tiles.wf = true) (p : Page) : (pageBytes tiles p).Within 256 := by
  have wf : ∀ {lo : Nat} {m : Memory}, tableWfFrom 0 lo m = true →
      tableWfFrom 0 (lo - 256 * p.val) (pageBytes m p) = true := by
    intro lo m
    induction m generalizing lo with
    | nil => intro _; rfl
    | cons e m ih =>
      obtain ⟨k, v⟩ := e
      intro hm
      obtain ⟨hk, hv, hr⟩ := tableWfFrom_cons.mp hm
      by_cases hp : k / 256 = p.val
      · rw [show pageBytes ((k, v) :: m) p = (k % 256, v) :: pageBytes m p by simp [pageBytes, hp]]
        exact tableWfFrom_cons.mpr ⟨by omega, hv, tableWfFrom_weaken (by omega) (ih hr)⟩
      · rw [show pageBytes ((k, v) :: m) p = pageBytes m p by simp [pageBytes, hp]]
        exact tableWfFrom_weaken (by omega) (ih hr)
  refine ⟨tableWfFrom_weaken (Nat.zero_le _) (wf h), fun e he => ?_⟩
  obtain ⟨⟨a, b⟩, -, hx⟩ := List.mem_filterMap.mp he
  dsimp only at hx
  split at hx
  · cases hx; exact Nat.mod_lt _ (by decide)
  · cases hx

/-! ## The medium (R150, R159) -/

theorem Medium.slot_put_same {m : Medium} (h : tableWfFrom Slot.blank 0 m = true) (p : Page) (x : Slot) :
    (m.put p x).slot p = x := tableGet_put_same h

theorem Medium.slot_put_other (m : Medium) {p q : Page} (h : q ≠ p) (x : Slot) :
    (m.put p x).slot q = m.slot q := tableGet_put_other (fun he => h (Fin.ext he)) m

theorem Medium.put_ok {m : Medium} (h : m.Ok) (p : Page) {x : Slot} (hx : x.data.Within 256) :
    (m.put p x).Ok := by
  refine ⟨tablePut_wf (Nat.zero_le _) h.1, fun e he => ?_⟩
  rcases mem_tablePut he with ⟨rfl, -⟩ | he
  · exact ⟨p.isLt, hx⟩
  · exact h.2 e he

theorem Medium.slot_ok {m : Medium} (h : m.Ok) (p : Page) : (m.slot p).data.Within 256 := by
  rcases tableGet_mem (d := Slot.blank) p.val m with hs | hs
  · rw [Medium.slot, hs]; exact Memory.nil_within 256
  · exact (h.2 _ hs).2

/-- The tiles the start-up load writes are in their form (R23, R159). -/
theorem Medium.tiles_within {m : Medium} (h : m.Ok) : m.tiles.Within 65536 := by
  have wf : ∀ {lo : Nat} {m : Medium}, tableWfFrom Slot.blank lo m = true →
      (∀ e ∈ m, e.2.data.Within 256) → tableWfFrom 0 (256 * lo) m.tiles = true := by
    intro lo m
    induction m generalizing lo with
    | nil => intro _ _; rfl
    | cons e m ih =>
      obtain ⟨k, x⟩ := e
      intro hm hb
      obtain ⟨hk, -, hr⟩ := tableWfFrom_cons.mp hm
      have hx := hb (k, x) List.mem_cons_self
      have ih := ih hr fun e he => hb e (List.mem_cons_of_mem _ he)
      simp only [Medium.tiles, List.flatMap_cons]
      split
      · refine tableWfFrom_append (mid := 256 * (k + 1)) ih (by omega)
          (tableWfFrom_weaken (by omega) (tableWfFrom_shift (256 * k) hx.1)) fun e he => ?_
        obtain ⟨y, hy, rfl⟩ := List.mem_map.mp he
        have := hx.2 y hy
        show 256 * k + y.1 < 256 * (k + 1)
        omega
      · exact tableWfFrom_weaken (by omega) ih
  refine ⟨wf (lo := 0) h.1 fun e he => (h.2 e he).2, fun e he => ?_⟩
  obtain ⟨⟨k, x⟩, hx, he⟩ := List.mem_flatMap.mp he
  dsimp only at he
  split at he
  · obtain ⟨y, hy, rfl⟩ := List.mem_map.mp he
    have h1 : k < 256 := (h.2 _ hx).1
    have h2 := (h.2 _ hx).2.2 y hy
    show 256 * k + y.1 < 65536
    omega
  · simp at he

/-- A cut save keeps the medium in its form (R150, R162). -/
theorem MapStore.cut_medium_ok {st : MapStore} (h : st.medium.Ok)
    (hb : ∀ c ∈ st.current, c.buffer.Within 256) (reach : SaveReach) : (st.cut reach).medium.Ok := by
  rw [MapStore.cut]
  split
  · exact h
  · rename_i c hc
    dsimp only
    split
    · refine Medium.put_ok h c.page ?_
      cases reach <;> first | exact Memory.nil_within 256 | exact hb c hc
    · exact h

/-- The memories at reset are in their form. -/
theorem reset_memoryOk : State.reset.MemoryOk := by
  refine ⟨⟨Memory.nil_within _, ?_⟩, ⟨rfl, ?_⟩, ?_⟩ <;> simp [State.reset, State.starting, TileMap.initial, MapStore.initial]

end Sys2Proof.Machine
end

