-- ==== Sys2Proof/Laws/State.lean ====
section
/-! SUPPORT. One lemma per field per update of State, so that no later proof unfolds a record update. -/

namespace Sys2Proof.Machine

/-! ## A frame joins the output queue (R181) -/

section

variable (s : State) (f : Frame)

@[simp] theorem State.pushUp_phase : (s.pushUp f).phase = s.phase := rfl
@[simp] theorem State.pushUp_port : (s.pushUp f).port =
    { s.port with out := s.port.out ++ [f] } := rfl
@[simp] theorem State.pushUp_map : (s.pushUp f).map = s.map := rfl
@[simp] theorem State.pushUp_pose : (s.pushUp f).pose = s.pose := rfl
@[simp] theorem State.pushUp_seg : (s.pushUp f).seg = s.seg := rfl
@[simp] theorem State.pushUp_trv : (s.pushUp f).trv = s.trv := rfl
@[simp] theorem State.pushUp_env : (s.pushUp f).env = s.env := rfl
@[simp] theorem State.pushUp_haz : (s.pushUp f).haz = s.haz := rfl
@[simp] theorem State.pushUp_drv : (s.pushUp f).drv = s.drv := rfl
@[simp] theorem State.pushUp_dock : (s.pushUp f).dock = s.dock := rfl
@[simp] theorem State.pushUp_store : (s.pushUp f).store = s.store := rfl
@[simp] theorem State.pushUp_rep : (s.pushUp f).rep = s.rep := rfl
@[simp] theorem State.pushUp_params : (s.pushUp f).params = s.params := rfl
@[simp] theorem State.pushUp_pending : (s.pushUp f).pending = s.pending := rfl

end

/-! ## A frame is handed to the D-link transmitter (R179) -/

section

variable (s : State) (f : Frame)

@[simp] theorem State.pushDown_phase : (s.pushDown f).phase = s.phase := rfl
@[simp] theorem State.pushDown_port : (s.pushDown f).port =
    { s.port with dTx := s.port.dTx ++ [f] } := rfl
@[simp] theorem State.pushDown_map : (s.pushDown f).map = s.map := rfl
@[simp] theorem State.pushDown_pose : (s.pushDown f).pose = s.pose := rfl
@[simp] theorem State.pushDown_seg : (s.pushDown f).seg = s.seg := rfl
@[simp] theorem State.pushDown_trv : (s.pushDown f).trv = s.trv := rfl
@[simp] theorem State.pushDown_env : (s.pushDown f).env = s.env := rfl
@[simp] theorem State.pushDown_haz : (s.pushDown f).haz = s.haz := rfl
@[simp] theorem State.pushDown_drv : (s.pushDown f).drv = s.drv := rfl
@[simp] theorem State.pushDown_dock : (s.pushDown f).dock = s.dock := rfl
@[simp] theorem State.pushDown_store : (s.pushDown f).store = s.store := rfl
@[simp] theorem State.pushDown_rep : (s.pushDown f).rep = s.rep := rfl
@[simp] theorem State.pushDown_params : (s.pushDown f).params = s.params := rfl
@[simp] theorem State.pushDown_pending : (s.pushDown f).pending = s.pending := rfl

end

/-! ## A BRAKE is sent (R126) -/

section

variable (s : State)

@[simp] theorem State.brake_phase : (s.brake).phase = s.phase := rfl
@[simp] theorem State.brake_port : (s.brake).port =
    { s.port with dTx := s.port.dTx ++ [⟨kindBrake, []⟩] } := rfl
@[simp] theorem State.brake_map : (s.brake).map = s.map := rfl
@[simp] theorem State.brake_pose : (s.brake).pose = s.pose := rfl
@[simp] theorem State.brake_seg : (s.brake).seg = s.seg := rfl
@[simp] theorem State.brake_trv : (s.brake).trv = s.trv := rfl
@[simp] theorem State.brake_env : (s.brake).env = s.env := rfl
@[simp] theorem State.brake_haz : (s.brake).haz = s.haz := rfl
@[simp] theorem State.brake_drv : (s.brake).drv = s.drv := rfl
@[simp] theorem State.brake_dock : (s.brake).dock = s.dock := rfl
@[simp] theorem State.brake_store : (s.brake).store = s.store := rfl
@[simp] theorem State.brake_rep : (s.brake).rep = s.rep := rfl
@[simp] theorem State.brake_params : (s.brake).params = s.params := rfl
@[simp] theorem State.brake_pending : (s.brake).pending = s.pending := rfl

end

/-! ## A latch is set (R168) -/

section

variable (s : State) (l : Latch)

@[simp] theorem State.setLatch_phase : (s.setLatch l).phase = s.phase := rfl
@[simp] theorem State.setLatch_port : (s.setLatch l).port = s.port := rfl
@[simp] theorem State.setLatch_map : (s.setLatch l).map = s.map := rfl
@[simp] theorem State.setLatch_pose : (s.setLatch l).pose = s.pose := rfl
@[simp] theorem State.setLatch_seg : (s.setLatch l).seg = s.seg := rfl
@[simp] theorem State.setLatch_trv : (s.setLatch l).trv = s.trv := rfl
@[simp] theorem State.setLatch_env : (s.setLatch l).env = s.env := rfl
@[simp] theorem State.setLatch_haz : (s.setLatch l).haz = s.haz := rfl
@[simp] theorem State.setLatch_drv : (s.setLatch l).drv = s.drv := rfl
@[simp] theorem State.setLatch_dock : (s.setLatch l).dock = s.dock := rfl
@[simp] theorem State.setLatch_store : (s.setLatch l).store = s.store := rfl
@[simp] theorem State.setLatch_rep : (s.setLatch l).rep =
    { s.rep with latches := l.set s.rep.latches } := rfl
@[simp] theorem State.setLatch_params : (s.setLatch l).params = s.params := rfl
@[simp] theorem State.setLatch_pending : (s.setLatch l).pending = s.pending := rfl

end

/-! ## A counter rises (R174) -/

section

variable (s : State) (c : Counter) (k : Nat)

@[simp] theorem State.count_phase : (s.count c k).phase = s.phase := rfl
@[simp] theorem State.count_port : (s.count c k).port = s.port := rfl
@[simp] theorem State.count_map : (s.count c k).map = s.map := rfl
@[simp] theorem State.count_pose : (s.count c k).pose = s.pose := rfl
@[simp] theorem State.count_seg : (s.count c k).seg = s.seg := rfl
@[simp] theorem State.count_trv : (s.count c k).trv = s.trv := rfl
@[simp] theorem State.count_env : (s.count c k).env = s.env := rfl
@[simp] theorem State.count_haz : (s.count c k).haz = s.haz := rfl
@[simp] theorem State.count_drv : (s.count c k).drv = s.drv := rfl
@[simp] theorem State.count_dock : (s.count c k).dock = s.dock := rfl
@[simp] theorem State.count_store : (s.count c k).store = s.store := rfl
@[simp] theorem State.count_rep : (s.count c k).rep =
    { s.rep with
      counters := s.rep.counters.set c.position (saturate 65535 s.rep.counters[c.position] k) } := rfl
@[simp] theorem State.count_params : (s.count c k).params = s.params := rfl
@[simp] theorem State.count_pending : (s.count c k).pending = s.pending := rfl

end

/-! ## The pose quality changes (R35, R36) -/

section

variable (s : State) (q : Quality)

@[simp] theorem State.setQuality_phase : (s.setQuality q).phase = s.phase := rfl
@[simp] theorem State.setQuality_port : (s.setQuality q).port = s.port := rfl
@[simp] theorem State.setQuality_map : (s.setQuality q).map = s.map := rfl
@[simp] theorem State.setQuality_pose : (s.setQuality q).pose =
    { s.pose with quality := q } := rfl
@[simp] theorem State.setQuality_seg : (s.setQuality q).seg = s.seg := rfl
@[simp] theorem State.setQuality_trv : (s.setQuality q).trv = s.trv := rfl
@[simp] theorem State.setQuality_env : (s.setQuality q).env = s.env := rfl
@[simp] theorem State.setQuality_haz : (s.setQuality q).haz = s.haz := rfl
@[simp] theorem State.setQuality_drv : (s.setQuality q).drv = s.drv := rfl
@[simp] theorem State.setQuality_dock : (s.setQuality q).dock = s.dock := rfl
@[simp] theorem State.setQuality_store : (s.setQuality q).store = s.store := rfl
@[simp] theorem State.setQuality_rep : (s.setQuality q).rep = s.rep := rfl
@[simp] theorem State.setQuality_params : (s.setQuality q).params = s.params := rfl
@[simp] theorem State.setQuality_pending : (s.setQuality q).pending = s.pending := rfl

end

/-! ## The dock-pose setting (R37) -/

section

variable (s : State)

@[simp] theorem State.setDockPose_phase : (s.setDockPose).phase = s.phase := rfl
@[simp] theorem State.setDockPose_port : (s.setDockPose).port = s.port := rfl
@[simp] theorem State.setDockPose_map : (s.setDockPose).map = s.map := rfl
@[simp] theorem State.setDockPose_pose : (s.setDockPose).pose =
    { s.pose with
      x := s.param .dockX, y := s.param .dockY, h := s.paramNat .dockH, quality := .good
      stallL := 0, stallR := 0 } := rfl
@[simp] theorem State.setDockPose_seg : (s.setDockPose).seg = s.seg := rfl
@[simp] theorem State.setDockPose_trv : (s.setDockPose).trv = s.trv := rfl
@[simp] theorem State.setDockPose_env : (s.setDockPose).env = s.env := rfl
@[simp] theorem State.setDockPose_haz : (s.setDockPose).haz = s.haz := rfl
@[simp] theorem State.setDockPose_drv : (s.setDockPose).drv = s.drv := rfl
@[simp] theorem State.setDockPose_dock : (s.setDockPose).dock = s.dock := rfl
@[simp] theorem State.setDockPose_store : (s.setDockPose).store = s.store := rfl
@[simp] theorem State.setDockPose_rep : (s.setDockPose).rep = s.rep := rfl
@[simp] theorem State.setDockPose_params : (s.setDockPose).params = s.params := rfl
@[simp] theorem State.setDockPose_pending : (s.setDockPose).pending = s.pending := rfl

end

/-! ## The travel state changes (R62) -/

section

variable (s : State) (t : Travel)

@[simp] theorem State.enter_phase : (s.enter t).phase = s.phase := rfl
@[simp] theorem State.enter_port : (s.enter t).port = s.port := rfl
@[simp] theorem State.enter_map : (s.enter t).map = s.map := rfl
@[simp] theorem State.enter_pose : (s.enter t).pose = s.pose := rfl
@[simp] theorem State.enter_seg : (s.enter t).seg =
    { s.seg with cadence := if t = .cruise then s.seg.cadence else none } := rfl
@[simp] theorem State.enter_trv : (s.enter t).trv =
    { s.trv with
      state := t
      yield := s.trv.yield && decide (t = .cruise)
      grace := if t = .limp then s.trv.grace else none
      backoff := if t = .backoff then s.trv.backoff else none } := rfl
@[simp] theorem State.enter_env : (s.enter t).env = s.env := rfl
@[simp] theorem State.enter_haz : (s.enter t).haz = s.haz := rfl
@[simp] theorem State.enter_drv : (s.enter t).drv =
    if s.trv.state = .docked ∧ t ≠ .docked then
      { s.drv with period := s.drv.period.map Interval.cut } else s.drv := rfl
@[simp] theorem State.enter_dock : (s.enter t).dock =
    if t = .approach then s.dock else
      { s.dock with sub := .none_, approach := none, beamLost := none, settle := none } := rfl
@[simp] theorem State.enter_store : (s.enter t).store = s.store := rfl
@[simp] theorem State.enter_rep : (s.enter t).rep = s.rep := rfl
@[simp] theorem State.enter_params : (s.enter t).params = s.params := rfl
@[simp] theorem State.enter_pending : (s.enter t).pending = s.pending := rfl

end

/-! ## A receiver is replaced (R178) -/

section

variable (s : State) (link : Link) (r : Receiver)

@[simp] theorem State.setReceiver_phase : (s.setReceiver link r).phase = s.phase := by cases link <;> rfl
@[simp] theorem State.setReceiver_map : (s.setReceiver link r).map = s.map := by cases link <;> rfl
@[simp] theorem State.setReceiver_pose : (s.setReceiver link r).pose = s.pose := by cases link <;> rfl
@[simp] theorem State.setReceiver_seg : (s.setReceiver link r).seg = s.seg := by cases link <;> rfl
@[simp] theorem State.setReceiver_trv : (s.setReceiver link r).trv = s.trv := by cases link <;> rfl
@[simp] theorem State.setReceiver_env : (s.setReceiver link r).env = s.env := by cases link <;> rfl
@[simp] theorem State.setReceiver_haz : (s.setReceiver link r).haz = s.haz := by cases link <;> rfl
@[simp] theorem State.setReceiver_drv : (s.setReceiver link r).drv = s.drv := by cases link <;> rfl
@[simp] theorem State.setReceiver_dock : (s.setReceiver link r).dock = s.dock := by cases link <;> rfl
@[simp] theorem State.setReceiver_store : (s.setReceiver link r).store = s.store := by cases link <;> rfl
@[simp] theorem State.setReceiver_rep : (s.setReceiver link r).rep = s.rep := by cases link <;> rfl
@[simp] theorem State.setReceiver_params : (s.setReceiver link r).params = s.params := by cases link <;> rfl
@[simp] theorem State.setReceiver_pending : (s.setReceiver link r).pending = s.pending := by cases link <;> rfl

end

/-! ## A receiver hands on an intact frame (R178) -/

section

variable (s : State) (link : Link) (n : Nat)

@[simp] theorem State.frameTaken_phase : (s.frameTaken link n).phase = s.phase := by cases link <;> rfl
@[simp] theorem State.frameTaken_map : (s.frameTaken link n).map = s.map := by cases link <;> rfl
@[simp] theorem State.frameTaken_pose : (s.frameTaken link n).pose = s.pose := by cases link <;> rfl
@[simp] theorem State.frameTaken_seg : (s.frameTaken link n).seg = s.seg := by cases link <;> rfl
@[simp] theorem State.frameTaken_trv : (s.frameTaken link n).trv = s.trv := by cases link <;> rfl
@[simp] theorem State.frameTaken_env : (s.frameTaken link n).env = s.env := by cases link <;> rfl
@[simp] theorem State.frameTaken_haz : (s.frameTaken link n).haz = s.haz := by cases link <;> rfl
@[simp] theorem State.frameTaken_drv : (s.frameTaken link n).drv = s.drv := by cases link <;> rfl
@[simp] theorem State.frameTaken_dock : (s.frameTaken link n).dock = s.dock := by cases link <;> rfl
@[simp] theorem State.frameTaken_store : (s.frameTaken link n).store = s.store := by cases link <;> rfl
@[simp] theorem State.frameTaken_rep : (s.frameTaken link n).rep = s.rep := by cases link <;> rfl
@[simp] theorem State.frameTaken_params : (s.frameTaken link n).params = s.params := by cases link <;> rfl
@[simp] theorem State.frameTaken_pending : (s.frameTaken link n).pending = s.pending := by cases link <;> rfl

end

/-! ## What the updates leave of the parts they touch -/

section

variable (s : State) (f : Frame) (t : Travel) (link : Link) (n : Nat) (r : Receiver)

@[simp] theorem State.pushUp_queued : (s.pushUp f).queued = s.queued + 1 := by simp [State.queued]
@[simp] theorem State.pushDown_queued : (s.pushDown f).queued = s.queued := rfl
@[simp] theorem State.enter_queued : (s.enter t).queued = s.queued := rfl
@[simp] theorem State.enter_state : (s.enter t).trv.state = t := rfl
@[simp] theorem State.enter_outcome : (s.enter t).trv.outcome = s.trv.outcome := rfl
@[simp] theorem State.enter_queue : (s.enter t).seg.queue = s.seg.queue := rfl
@[simp] theorem State.enter_lastBeat : (s.enter t).seg.lastBeat = s.seg.lastBeat := rfl
@[simp] theorem State.frameTaken_out : (s.frameTaken link n).port.out = s.port.out := by cases link <;> rfl
@[simp] theorem State.frameTaken_dTx : (s.frameTaken link n).port.dTx = s.port.dTx := by cases link <;> rfl
@[simp] theorem State.frameTaken_queued : (s.frameTaken link n).queued = s.queued := by cases link <;> rfl
@[simp] theorem State.setReceiver_out : (s.setReceiver link r).port.out = s.port.out := by cases link <;> rfl
@[simp] theorem State.setReceiver_dTx : (s.setReceiver link r).port.dTx = s.port.dTx := by cases link <;> rfl
@[simp] theorem State.setReceiver_same : (s.setReceiver link r).port.receiver link = r := by cases link <;> rfl

theorem State.setReceiver_other (other : Link) (h : other ≠ link) :
    (s.setReceiver link r).port.receiver other = s.port.receiver other := by
  cases link <;> cases other <;> first | rfl | exact absurd rfl h

end

end Sys2Proof.Machine
end

