-- ==== Sys2Proof/Laws/Ops.lean ====
section
/-! SUPPORT. What each shared operation can do, said once: raising and releasing, the port, halts, aborts, saves and drive faults. -/

namespace Sys2Proof.Machine

/-! ## Supply -/

theorem State.onRunning_running {s : State} (f : State → State) (h : s.phase = .running) :
    s.onRunning f = f s := if_pos h

theorem State.onRunning_stopped {s : State} (f : State → State) (h : s.phase ≠ .running) :
    s.onRunning f = s := if_neg h

/-! ## Raising (R165) and release (R166) -/

/-- `t` is `s` but for the output queue and the pending records. -/
abbrev OnlyReports (s t : State) : Prop :=
  t = { s with port := { s.port with out := t.port.out }, rep := { s.rep with held := t.rep.held } }

theorem OnlyReports.refl (s : State) : OnlyReports s s := rfl

theorem OnlyReports.trans {s t u : State} (h : OnlyReports s t) (k : OnlyReports t u) : OnlyReports s u := by
  rw [OnlyReports] at *
  rw [k, h]

/-- An event raised leaves nothing, joins the output queue, or replaces its class's pending record. -/
theorem State.raise_cases (e : Event) (s : State) :
    s.rep.enable = false ∧ s.raise e = s ∨
    s.rep.enable = true ∧ s.rep.masks[e.cls.number] = false ∧ s.rep.held[e.cls.number] = none ∧
      s.queued < 16 ∧ s.raise e = s.pushUp (noteFrame (s.noteOf e) 1) ∨
    s.rep.enable = true ∧
      ¬(s.rep.masks[e.cls.number] = false ∧ s.rep.held[e.cls.number] = none ∧ s.queued < 16) ∧
      s.raise e = { s with rep := { s.rep with
        held := s.rep.held.set e.cls.number (some (holdNote (s.noteOf e) s.rep.held[e.cls.number])) } } := by
  by_cases h1 : s.rep.enable = false
  · exact .inl ⟨h1, by simp only [State.raise, if_pos h1]⟩
  · have h1' : s.rep.enable = true := by simpa using h1
    by_cases h2 : s.rep.masks[e.cls.number] = false ∧ s.rep.held[e.cls.number] = none ∧ s.queued < 16
    · exact .inr (.inl ⟨h1', h2.1, h2.2.1, h2.2.2, by simp only [State.raise, if_neg h1, if_pos h2]⟩)
    · exact .inr (.inr ⟨h1', h2, by simp only [State.raise, if_neg h1, if_neg h2]⟩)

theorem State.raise_onlyReports (e : Event) (s : State) : OnlyReports s (s.raise e) := by
  rcases s.raise_cases e with ⟨-, h⟩ | ⟨-, -, -, -, h⟩ | ⟨-, -, h⟩
  all_goals rw [OnlyReports, h]
  rfl

theorem State.raiseAll_nil (s : State) : s.raiseAll [] = s := rfl

theorem State.raiseAll_cons (e : Event) (es : List Event) (s : State) :
    s.raiseAll (e :: es) = (s.raise e).raiseAll es := rfl

theorem State.raiseAll_onlyReports (es : List Event) : ∀ s : State, OnlyReports s (s.raiseAll es) := by
  induction es with
  | nil => exact OnlyReports.refl
  | cons e es ih => exact fun s => (s.raise_onlyReports e).trans (ih (s.raise e))

/-- A class's pending record becomes a NOTE frame, or stays. -/
theorem State.releaseClass_cases (s : State) (c : ReportClass) :
    s.releaseClass c = s ∨ ∃ r, s.rep.held[c.number] = some r ∧ s.rep.masks[c.number] = false ∧
      s.queued < 16 ∧ s.releaseClass c =
        ({ s with rep := { s.rep with held := s.rep.held.set c.number none } } : State).pushUp
          (noteFrame r.note r.count) := by
  rw [State.releaseClass]
  dsimp only
  split
  · exact .inl rfl
  · rename_i r hr
    split
    · rename_i h; exact .inr ⟨r, hr, h.1, h.2, rfl⟩
    · exact .inl rfl

theorem State.releaseClass_onlyReports (s : State) (c : ReportClass) : OnlyReports s (s.releaseClass c) := by
  rcases s.releaseClass_cases c with h | ⟨r, -, -, -, h⟩
  all_goals rw [OnlyReports, h]
  rfl

theorem State.foldl_releaseClass_onlyReports (cs : List ReportClass) :
    ∀ s : State, OnlyReports s (cs.foldl State.releaseClass s) := by
  induction cs with
  | nil => exact OnlyReports.refl
  | cons c cs ih =>
    intro s
    rw [List.foldl_cons]
    exact (s.releaseClass_onlyReports c).trans (ih (s.releaseClass c))

theorem State.release_onlyReports (s : State) : OnlyReports s s.release := by
  have h := State.foldl_releaseClass_onlyReports ReportClass.all s
  rwa [← State.release] at h

section

variable (e : Event) (es : List Event) (s : State)

@[simp] theorem State.raise_phase : (s.raise e).phase = s.phase := by rw [s.raise_onlyReports e]
@[simp] theorem State.raise_map : (s.raise e).map = s.map := by rw [s.raise_onlyReports e]
@[simp] theorem State.raise_pose : (s.raise e).pose = s.pose := by rw [s.raise_onlyReports e]
@[simp] theorem State.raise_seg : (s.raise e).seg = s.seg := by rw [s.raise_onlyReports e]
@[simp] theorem State.raise_trv : (s.raise e).trv = s.trv := by rw [s.raise_onlyReports e]
@[simp] theorem State.raise_env : (s.raise e).env = s.env := by rw [s.raise_onlyReports e]
@[simp] theorem State.raise_haz : (s.raise e).haz = s.haz := by rw [s.raise_onlyReports e]
@[simp] theorem State.raise_drv : (s.raise e).drv = s.drv := by rw [s.raise_onlyReports e]
@[simp] theorem State.raise_dock : (s.raise e).dock = s.dock := by rw [s.raise_onlyReports e]
@[simp] theorem State.raise_store : (s.raise e).store = s.store := by rw [s.raise_onlyReports e]
@[simp] theorem State.raise_params : (s.raise e).params = s.params := by rw [s.raise_onlyReports e]
@[simp] theorem State.raise_pending : (s.raise e).pending = s.pending := by rw [s.raise_onlyReports e]
@[simp] theorem State.raise_rate : (s.raise e).port.rate = s.port.rate := by rw [s.raise_onlyReports e]
@[simp] theorem State.raise_rxN : (s.raise e).port.rxN = s.port.rxN := by rw [s.raise_onlyReports e]
@[simp] theorem State.raise_rxD : (s.raise e).port.rxD = s.port.rxD := by rw [s.raise_onlyReports e]
@[simp] theorem State.raise_rxS : (s.raise e).port.rxS = s.port.rxS := by rw [s.raise_onlyReports e]
@[simp] theorem State.raise_dTx : (s.raise e).port.dTx = s.port.dTx := by rw [s.raise_onlyReports e]
@[simp] theorem State.raise_nWire : (s.raise e).port.nWire = s.port.nWire := by rw [s.raise_onlyReports e]
@[simp] theorem State.raise_dWire : (s.raise e).port.dWire = s.port.dWire := by rw [s.raise_onlyReports e]
@[simp] theorem State.raise_enable : (s.raise e).rep.enable = s.rep.enable := by rw [s.raise_onlyReports e]
@[simp] theorem State.raise_masks : (s.raise e).rep.masks = s.rep.masks := by rw [s.raise_onlyReports e]
@[simp] theorem State.raise_latches : (s.raise e).rep.latches = s.rep.latches := by rw [s.raise_onlyReports e]
@[simp] theorem State.raise_counters : (s.raise e).rep.counters = s.rep.counters := by rw [s.raise_onlyReports e]
@[simp] theorem State.raise_tele : (s.raise e).rep.tele = s.rep.tele := by rw [s.raise_onlyReports e]
@[simp] theorem State.raise_fwd : (s.raise e).rep.fwd = s.rep.fwd := by rw [s.raise_onlyReports e]
@[simp] theorem State.raise_timebase : (s.raise e).rep.timebase = s.rep.timebase := by rw [s.raise_onlyReports e]
@[simp] theorem State.raise_cause : (s.raise e).rep.cause = s.rep.cause := by rw [s.raise_onlyReports e]

@[simp] theorem State.raiseAll_phase : (s.raiseAll es).phase = s.phase := by rw [s.raiseAll_onlyReports es]
@[simp] theorem State.raiseAll_map : (s.raiseAll es).map = s.map := by rw [s.raiseAll_onlyReports es]
@[simp] theorem State.raiseAll_pose : (s.raiseAll es).pose = s.pose := by rw [s.raiseAll_onlyReports es]
@[simp] theorem State.raiseAll_seg : (s.raiseAll es).seg = s.seg := by rw [s.raiseAll_onlyReports es]
@[simp] theorem State.raiseAll_trv : (s.raiseAll es).trv = s.trv := by rw [s.raiseAll_onlyReports es]
@[simp] theorem State.raiseAll_env : (s.raiseAll es).env = s.env := by rw [s.raiseAll_onlyReports es]
@[simp] theorem State.raiseAll_haz : (s.raiseAll es).haz = s.haz := by rw [s.raiseAll_onlyReports es]
@[simp] theorem State.raiseAll_drv : (s.raiseAll es).drv = s.drv := by rw [s.raiseAll_onlyReports es]
@[simp] theorem State.raiseAll_dock : (s.raiseAll es).dock = s.dock := by rw [s.raiseAll_onlyReports es]
@[simp] theorem State.raiseAll_store : (s.raiseAll es).store = s.store := by rw [s.raiseAll_onlyReports es]
@[simp] theorem State.raiseAll_params : (s.raiseAll es).params = s.params := by rw [s.raiseAll_onlyReports es]
@[simp] theorem State.raiseAll_pending : (s.raiseAll es).pending = s.pending := by rw [s.raiseAll_onlyReports es]
@[simp] theorem State.raiseAll_rate : (s.raiseAll es).port.rate = s.port.rate := by rw [s.raiseAll_onlyReports es]
@[simp] theorem State.raiseAll_rxN : (s.raiseAll es).port.rxN = s.port.rxN := by rw [s.raiseAll_onlyReports es]
@[simp] theorem State.raiseAll_rxD : (s.raiseAll es).port.rxD = s.port.rxD := by rw [s.raiseAll_onlyReports es]
@[simp] theorem State.raiseAll_rxS : (s.raiseAll es).port.rxS = s.port.rxS := by rw [s.raiseAll_onlyReports es]
@[simp] theorem State.raiseAll_dTx : (s.raiseAll es).port.dTx = s.port.dTx := by rw [s.raiseAll_onlyReports es]
@[simp] theorem State.raiseAll_nWire : (s.raiseAll es).port.nWire = s.port.nWire := by rw [s.raiseAll_onlyReports es]
@[simp] theorem State.raiseAll_dWire : (s.raiseAll es).port.dWire = s.port.dWire := by rw [s.raiseAll_onlyReports es]
@[simp] theorem State.raiseAll_enable : (s.raiseAll es).rep.enable = s.rep.enable := by rw [s.raiseAll_onlyReports es]
@[simp] theorem State.raiseAll_masks : (s.raiseAll es).rep.masks = s.rep.masks := by rw [s.raiseAll_onlyReports es]
@[simp] theorem State.raiseAll_latches : (s.raiseAll es).rep.latches = s.rep.latches := by rw [s.raiseAll_onlyReports es]
@[simp] theorem State.raiseAll_counters : (s.raiseAll es).rep.counters = s.rep.counters := by rw [s.raiseAll_onlyReports es]
@[simp] theorem State.raiseAll_tele : (s.raiseAll es).rep.tele = s.rep.tele := by rw [s.raiseAll_onlyReports es]
@[simp] theorem State.raiseAll_fwd : (s.raiseAll es).rep.fwd = s.rep.fwd := by rw [s.raiseAll_onlyReports es]
@[simp] theorem State.raiseAll_timebase : (s.raiseAll es).rep.timebase = s.rep.timebase := by rw [s.raiseAll_onlyReports es]
@[simp] theorem State.raiseAll_cause : (s.raiseAll es).rep.cause = s.rep.cause := by rw [s.raiseAll_onlyReports es]

@[simp] theorem State.release_phase : (s.release).phase = s.phase := by rw [s.release_onlyReports]
@[simp] theorem State.release_map : (s.release).map = s.map := by rw [s.release_onlyReports]
@[simp] theorem State.release_pose : (s.release).pose = s.pose := by rw [s.release_onlyReports]
@[simp] theorem State.release_seg : (s.release).seg = s.seg := by rw [s.release_onlyReports]
@[simp] theorem State.release_trv : (s.release).trv = s.trv := by rw [s.release_onlyReports]
@[simp] theorem State.release_env : (s.release).env = s.env := by rw [s.release_onlyReports]
@[simp] theorem State.release_haz : (s.release).haz = s.haz := by rw [s.release_onlyReports]
@[simp] theorem State.release_drv : (s.release).drv = s.drv := by rw [s.release_onlyReports]
@[simp] theorem State.release_dock : (s.release).dock = s.dock := by rw [s.release_onlyReports]
@[simp] theorem State.release_store : (s.release).store = s.store := by rw [s.release_onlyReports]
@[simp] theorem State.release_params : (s.release).params = s.params := by rw [s.release_onlyReports]
@[simp] theorem State.release_pending : (s.release).pending = s.pending := by rw [s.release_onlyReports]
@[simp] theorem State.release_rate : (s.release).port.rate = s.port.rate := by rw [s.release_onlyReports]
@[simp] theorem State.release_rxN : (s.release).port.rxN = s.port.rxN := by rw [s.release_onlyReports]
@[simp] theorem State.release_rxD : (s.release).port.rxD = s.port.rxD := by rw [s.release_onlyReports]
@[simp] theorem State.release_rxS : (s.release).port.rxS = s.port.rxS := by rw [s.release_onlyReports]
@[simp] theorem State.release_dTx : (s.release).port.dTx = s.port.dTx := by rw [s.release_onlyReports]
@[simp] theorem State.release_nWire : (s.release).port.nWire = s.port.nWire := by rw [s.release_onlyReports]
@[simp] theorem State.release_dWire : (s.release).port.dWire = s.port.dWire := by rw [s.release_onlyReports]
@[simp] theorem State.release_enable : (s.release).rep.enable = s.rep.enable := by rw [s.release_onlyReports]
@[simp] theorem State.release_masks : (s.release).rep.masks = s.rep.masks := by rw [s.release_onlyReports]
@[simp] theorem State.release_latches : (s.release).rep.latches = s.rep.latches := by rw [s.release_onlyReports]
@[simp] theorem State.release_counters : (s.release).rep.counters = s.rep.counters := by rw [s.release_onlyReports]
@[simp] theorem State.release_tele : (s.release).rep.tele = s.rep.tele := by rw [s.release_onlyReports]
@[simp] theorem State.release_fwd : (s.release).rep.fwd = s.rep.fwd := by rw [s.release_onlyReports]
@[simp] theorem State.release_timebase : (s.release).rep.timebase = s.rep.timebase := by rw [s.release_onlyReports]
@[simp] theorem State.release_cause : (s.release).rep.cause = s.rep.cause := by rw [s.release_onlyReports]

@[simp] theorem State.raise_param (p : Param) : (s.raise e).param p = s.param p := by simp [State.param]
@[simp] theorem State.raiseAll_param (p : Param) : (s.raiseAll es).param p = s.param p := by simp [State.param]

/-- A raised event joins the tail of the output queue at most, and only where there is room. -/
theorem State.raise_out : (s.raise e).port.out = s.port.out ∨
    s.queued < 16 ∧ (s.raise e).port.out = s.port.out ++ [noteFrame (s.noteOf e) 1] := by
  rcases s.raise_cases e with ⟨-, h⟩ | ⟨-, -, -, hq, h⟩ | ⟨-, -, h⟩ <;> rw [h]
  · exact .inl rfl
  · exact .inr ⟨hq, rfl⟩
  · exact .inl rfl

theorem State.raise_queued_le (h : s.queued ≤ 16) : (s.raise e).queued ≤ 16 := by
  rcases s.raise_out e with h1 | ⟨hq, h1⟩ <;> simp only [State.queued, h1] at *
  · exact h
  · simpa using hq

end

/-! ## The port (R180) -/

/-- A reply that does not hang on the request's effect joins the output queue. -/
theorem State.answer_const (kind req : Byte) (r : Reply) (s : State) :
    s.answer kind req (fun t => (t, r)) = s.pushUp (replyFrame req kind r) := rfl

/-- The five ways a request goes at the port (R180). -/
theorem State.takeRequest_cases (k : NKind) (payload : List Byte) (act : State → State × Reply) (s : State) :
    let t := s.frameTaken .n payload.length
    let u := s.takeRequest k payload act
    s.phase ≠ .running ∧ u = s ∨
    s.phase = .running ∧ payload = [] ∧ u = t.count .nCheck 1 ∨
    ∃ req rest, s.phase = .running ∧ payload = req :: rest ∧
      (16 ≤ s.queued ∧ u = t.count .replyLost 1 ∨
       (∃ r, s.queued < 16 ∧ portRefusal s.trv.state k payload = some r ∧
         u = t.pushUp (replyFrame req k.code r)) ∨
       s.queued < 16 ∧ portRefusal s.trv.state k payload = none ∧ u = t.answer k.code req act) := by
  dsimp only
  by_cases hr : s.phase = .running
  · refine .inr ?_
    cases payload with
    | nil => exact .inl ⟨hr, rfl, by rw [State.takeRequest, State.onRunning_running _ hr]⟩
    | cons req rest =>
      refine .inr ⟨req, rest, hr, rfl, ?_⟩
      rw [State.takeRequest, State.onRunning_running _ hr]
      simp only [State.frameTaken_queued, State.frameTaken_trv]
      split
      · exact .inl ⟨‹_›, rfl⟩
      · split
        · rename_i r hp; exact .inr (.inl ⟨r, by omega, hp, rfl⟩)
        · rename_i hp; exact .inr (.inr ⟨by omega, hp, rfl⟩)
  · exact .inl ⟨hr, State.onRunning_stopped _ hr⟩

/-! ## Aborts, halts and drive faults (R45, R96, R120 to R124) -/

theorem State.abortWhole_eq (reason : AbortReason) (s : State) :
    s.abortWhole reason =
      ({ s with seg := { s.seg with queue := [] } } : State).raiseAll (abortEvents s.seg.queue reason) := rfl

@[simp] theorem State.abortWhole_queue (reason : AbortReason) (s : State) :
    (s.abortWhole reason).seg.queue = [] := by rw [State.abortWhole_eq]; simp

/-- A halt leaves everything but the D-link queue, the segment queue, the travel state and what runs with
it, and the reports (R96). -/
theorem State.halt_effect (reason : HaltReason) (s : State) :
    let t := s.halt reason
    t.trv.state = .halted ∧ t.seg.queue = [] ∧ t.seg.cadence = none ∧ t.trv.yield = false ∧
    t.trv.grace = none ∧ t.trv.backoff = none ∧ t.dock.sub = .none_ ∧
    t.port.dTx = s.port.dTx ++ [⟨kindBrake, []⟩] ∧
    t.phase = s.phase ∧ t.map = s.map ∧ t.pose = s.pose ∧ t.env = s.env ∧ t.haz = s.haz ∧
    t.store = s.store ∧ t.params = s.params ∧ t.pending = s.pending ∧
    t.rep.latches = s.rep.latches ∧ t.rep.counters = s.rep.counters := by
  simp only [State.halt, State.raiseDockFailed, State.abortWhole_eq]
  split <;> simp

/-- A save starts, or nothing does (R153). -/
theorem State.startSave_cases (s : State) :
    s.startSave = s ∧ (s.store.error = true ∨ s.store.current.isSome = true ∨ s.store.list = []) ∨
    ∃ p rest, s.store.error = false ∧ s.store.current = none ∧ s.store.list = p :: rest ∧
      s.startSave = { s with
        store := { s.store with list := rest, current := some ⟨p, pageBytes s.map.tiles p⟩ }
        map := { s.map with dirty := s.map.dirty.set p false } } := by
  rw [State.startSave]
  split
  · rename_i p rest h1 h2 h3; exact .inr ⟨p, rest, h1, h2, h3, rfl⟩
  · rename_i h
    refine .inl ⟨rfl, ?_⟩
    by_contra hc
    push Not at hc
    obtain ⟨p, rest, hl⟩ := List.exists_cons_of_ne_nil hc.2.2
    exact h p rest (by simpa using hc.1) (by simpa using hc.2.1) hl

/-- A drive fault does nothing in FAULT and LOCKED, and enters FAULT or LOCKED elsewhere (R120). -/
theorem State.driveFault_cases (kind : FaultKind) (code : Nat) (s : State) :
    let t : State := { s with drv := { s.drv with fault := some kind, faultCode := code } }
    (s.trv.state = .fault ∨ s.trv.state = .locked) ∧ s.driveFault kind code = s ∨
    s.trv.state ≠ .fault ∧ s.trv.state ≠ .locked ∧
      (s.drv.guard.isSome = true ∧ s.driveFault kind code = t.enterLocked kind ∨
       s.drv.guard.isSome = false ∧ s.driveFault kind code = t.enterFault kind code) := by
  dsimp only
  by_cases h : s.trv.state = .fault ∨ s.trv.state = .locked
  · exact .inl ⟨h, by rw [State.driveFault, if_pos h]⟩
  · refine .inr ⟨fun hc => h (.inl hc), fun hc => h (.inr hc), ?_⟩
    rw [State.driveFault, if_neg h]
    dsimp only
    split
    · exact .inl ⟨‹_›, rfl⟩
    · exact .inr ⟨Bool.eq_false_iff.mpr ‹_›, rfl⟩

/-- Entry to FAULT (R121, R126, R127). -/
theorem State.enterFault_effect (kind : FaultKind) (code : Nat) (s : State) :
    let t := s.enterFault kind code
    t.trv.state = .fault ∧ t.drv.stopN = false ∧ t.port.dTx = s.port.dTx ++ [⟨kindBrake, []⟩] ∧
    t.rep.latches = Latch.fault.set s.rep.latches ∧ t.rep.counters = s.rep.counters ∧
    t.drv.guard = s.drv.guard ∧ t.drv.fault = s.drv.fault ∧ t.drv.faultCode = s.drv.faultCode ∧
    t.seg.queue = [] ∧ t.seg.cadence = none ∧ t.trv.yield = false ∧ t.trv.grace = none ∧
    t.trv.backoff = none ∧ t.dock.sub = .none_ ∧ t.phase = s.phase ∧ t.map = s.map ∧ t.pose = s.pose ∧
    t.env = s.env ∧ t.haz = s.haz ∧ t.store = s.store ∧ t.params = s.params ∧ t.pending = s.pending := by
  simp only [State.enterFault, State.raiseDockFailed, State.abortWhole_eq]
  split <;> simp <;> split <;> simp

/-- Entry to LOCKED (R124 to R127). -/
theorem State.enterLocked_effect (kind : FaultKind) (s : State) :
    let t := s.enterLocked kind
    t.trv.state = .locked ∧ t.drv.stopN = false ∧ t.port.dTx = s.port.dTx ++ [⟨kindBrake, []⟩] ∧
    t.rep.latches = Latch.fault.set s.rep.latches ∧ t.rep.counters = s.rep.counters ∧
    t.drv.guard = none ∧ t.drv.period = none ∧ t.drv.response = none ∧ t.drv.phase = .clear ∧
    t.drv.fault = s.drv.fault ∧ t.drv.faultCode = s.drv.faultCode ∧
    t.seg.queue = [] ∧ t.seg.cadence = none ∧ t.trv.yield = false ∧ t.trv.grace = none ∧
    t.trv.backoff = none ∧ t.dock.sub = .none_ ∧ t.phase = s.phase ∧ t.map = s.map ∧ t.pose = s.pose ∧
    t.env = s.env ∧ t.haz = s.haz ∧ t.store = s.store ∧ t.params = s.params ∧ t.pending = s.pending := by
  simp only [State.enterLocked, State.raiseDockFailed, State.abortWhole_eq]
  split <;> simp

/-! ## Segments, docking and telemetry (R55, R57, R133, R137, R143, R181) -/

theorem State.restartCadence_cases (s : State) :
    (s.trv.state = .cruise ∧ s.seg.queue ≠ [] ∧ s.trv.yield = false ∧
      s.restartCadence = { s with seg := { s.seg with cadence := some (s.paramNat .cadenceWindow) } }) ∨
    ¬(s.trv.state = .cruise ∧ s.seg.queue ≠ [] ∧ s.trv.yield = false) ∧ s.restartCadence = s := by
  rw [State.restartCadence]
  split
  · rename_i h; exact .inl ⟨h.1, h.2.1, h.2.2, rfl⟩
  · exact .inr ⟨‹_›, rfl⟩

/-- The ACTIVE record leaves with SEGMENT DONE; the next becomes ACTIVE, or the travel state moves on. -/
theorem State.completeActive_cases (s : State) :
    s.seg.queue = [] ∧ s.completeActive = s ∨
    ∃ g rest, s.seg.queue = g :: rest ∧
      let t := ({ s with seg := { s.seg with queue := activateHead rest } } : State).raise (.segmentDone g.tag)
      s.completeActive = if rest = [] then t.queueEmptied else t := by
  rw [State.completeActive]
  split
  · exact .inl ⟨‹_›, rfl⟩
  · rename_i g rest h; exact .inr ⟨g, rest, h, rfl⟩

/-- An approach begins in SETTLE where the contact is closed and in SEEK elsewhere. -/
theorem State.beginApproach_effect (s : State) :
    let t := s.beginApproach
    t.trv.state = .approach ∧ t.trv.yield = false ∧ t.seg.cadence = none ∧ t.seg.queue = s.seg.queue ∧
    t.dock.sub = (if s.dock.contact = true then .settle else .seek) ∧
    t.dock.approach = some (1000 * s.paramNat .approachLimit) ∧ t.dock.beamLost = none ∧
    t.dock.contact = s.dock.contact ∧ t.dock.beacon = s.dock.beacon ∧
    t.phase = s.phase ∧ t.map = s.map ∧ t.pose = s.pose ∧ t.env = s.env ∧ t.haz = s.haz ∧
    t.store = s.store ∧ t.params = s.params ∧ t.pending = s.pending := by
  simp [State.beginApproach, State.paramNat, State.param]

/-- The robot docks. -/
theorem State.dockNow_effect (s : State) :
    let t := s.dockNow
    t.trv.state = .docked ∧ t.dock.sub = .none_ ∧ t.dock.approach = none ∧ t.dock.settle = none ∧
    t.pose = { s.pose with
      x := s.param .dockX, y := s.param .dockY, h := s.paramNat .dockH, quality := .good
      stallL := 0, stallR := 0 } ∧
    t.phase = s.phase ∧ t.map = s.map ∧ t.env = s.env ∧ t.haz = s.haz ∧ t.drv = s.drv ∧
    t.store = s.store ∧ t.params = s.params ∧ t.pending = s.pending := by
  simp [State.dockNow, State.paramNat, State.param]

/-- A frame of low priority joins the output queue, or is counted as skipped. -/
theorem State.pushLow_cases (f : Frame) (skip : Counter) (s : State) :
    s.queued < 12 ∧ s.pushLow f skip = s.pushUp f ∨ 12 ≤ s.queued ∧ s.pushLow f skip = s.count skip 1 := by
  rw [State.pushLow]
  split
  · exact .inl ⟨‹_›, rfl⟩
  · exact .inr ⟨by omega, rfl⟩

/-! ## Cliff sensors (R97, R99) -/

/-- A reading keeps a gate SPENT only at the level UNSAFE, and makes an edge only from SAFE and ARMED. -/
theorem CliffSensor.judge_effect (c : CliffSensor) (reading threshold release : Nat) (h : c.Ok) :
    (c.judge reading threshold release).1.Ok ∧
    ((c.judge reading threshold release).2 = true ↔
      c.level = .safe ∧ c.gate = .armed ∧ reading < threshold) := by
  obtain ⟨level, gate⟩ := c
  cases level <;> simp only [CliffSensor.judge] <;> split <;> simp_all [CliffSensor.Ok]

/-! ## Failed saves (R150, R156) -/

/-- A failed save leaves its slot TORN: the begun mark, no written complete mark, and none at all after ERASE and
PROGRAM; after MARK its data are the buffer's. -/
theorem failedSlot_effect (buffer : Memory) (step : FailStep) :
    let slot := failedSlot buffer step
    slot.begun = .written ∧ slot.complete ≠ .written ∧ (step ≠ .mark → slot.complete = .absent) ∧
    (step = .mark → slot.data = buffer) ∧ slot.state = .torn := by
  cases step <;> simp [failedSlot, Slot.state]

/-! ## Resets (R159, R162) -/

theorem State.hardReset_eq (cause : ResetCause) (rate : NRate) (reach : SaveReach) (s : State) :
    s.hardReset cause rate reach =
      let medium := (s.store.cut reach).medium
      State.starting cause rate medium.tiles medium.states medium s.pending := rfl

/-! ## Forwarding (R172) and a cadence restored (R60) -/

/-- Forwarding touches the output queue, the forwarding count and the counters alone. -/
theorem State.forward_frame (f : SenseFields) (flag : Bool) (s : State) :
    let t := s.forward f flag
    t = { s with
      port := { s.port with out := t.port.out }
      rep := { s.rep with fwd := t.rep.fwd, counters := t.rep.counters } } := by
  simp only [State.forward]
  split
  · rcases State.pushLow_cases _ .forwardSkip { s with rep := { s.rep with fwd := s.forwardCount.1 } } with
      ⟨-, h⟩ | ⟨-, h⟩ <;> rw [h] <;> rfl
  · rfl

/-- Outside LIMP nothing is restored; in LIMP the state becomes CRUISE, the grace timer stops, and one event is
raised. -/
theorem State.cadenceRestored_cases (s : State) :
    s.trv.state ≠ .limp ∧ s.cadenceRestored = s ∨
    s.trv.state = .limp ∧ OnlyReports { s with trv := { s.trv with state := .cruise, grace := none } }
      s.cadenceRestored := by
  by_cases h : s.trv.state = .limp
  · refine .inr ⟨h, ?_⟩
    rw [State.cadenceRestored, if_pos h]
    exact State.raise_onlyReports _ _
  · exact .inl ⟨h, if_neg h⟩

/-! ## The words of the statements about edges (R96, R99, R102) -/

/-- A halt is the one the statements spell out. -/
theorem State.halt_eq (reason : HaltReason) (s : State) :
    s.halt reason = s.haltTaken reason.abort reason.failure := by
  simp only [State.halt, State.haltTaken, State.abortWhole, State.raiseDockFailed, abortEvents]
  have h : s.brake.enter .halted = { s with
      port := { s.port with dTx := s.port.dTx ++ [{ kind := 0x41, payload := [] }] }
      trv := { s.trv with state := .halted, yield := false, grace := none, backoff := none }
      seg := { s.seg with cadence := none }
      dock := { s.dock with sub := .none_, approach := none, beamLost := none, settle := none }
      drv := { s.drv with period :=
        if s.trv.state = .docked then s.drv.period.map (fun i => { i with length := 10 })
        else s.drv.period } } := by
    simp only [State.enter, State.brake, State.pushDown]
    by_cases hd : s.trv.state = .docked <;> (simp [hd, kindBrake]; try rfl)
  rw [h]

/-- A page that joins is listed once, at the tail where it was not listed. -/
theorem MapStore.join_eq (st : MapStore) (p : Page) :
    st.join p = { st with list := if p ∈ st.list then st.list else st.list ++ [p] } := by
  rw [MapStore.join]
  split <;> rfl

/-- An observed mark is the one the statements spell out. -/
theorem State.markTile_eq (tx ty : Nat) (s : State) : s.markTile tx ty = s.tileMarked tx ty := by
  have h : markedTile (s.map.tile tx ty) = carry8 (0x16 + 32 *
      (if tileObserved (s.map.tile tx ty) = true ∧ tileClass (s.map.tile tx ty) = 6
        then min (tileCount (s.map.tile tx ty) + 1) 3 else 1)) := by
    generalize s.map.tile tx ty = old
    revert old; decide +kernel
  have hj := s.store.join_eq (tilePage tx ty)
  simp only [State.tileMarked, ← h, State.markTile, State.count, TileMap.writeTile, hj]
  have hn : (if tilePage tx ty ∈ s.store.list then s.store.list else s.store.list ++ [tilePage tx ty]) ≠ [] := by
    split
    · exact List.ne_nil_of_mem ‹_›
    · simp
  generalize (if tilePage tx ty ∈ s.store.list then s.store.list else _) = list at hn ⊢
  by_cases ha : (s.params[Param.autoSave.index]).toNat = 1
  · simp only [State.startSave, State.paramNat, State.param, ha]
    rcases list with _ | ⟨q, rest⟩
    · exact absurd rfl hn
    · rcases he : s.store.error <;> rcases hc : s.store.current <;> simp [TileMap.tile]
  · simp only [State.paramNat, State.param, ha, if_false, ne_eq, not_false_eq_true, if_true]
    rfl

/-- A sensor's stage leaves the record the statements spell out, and takes an edge where they say. -/
theorem State.judge_eq (f : SenseFields) (s : State) (sensor : Sensor) :
    ((s.haz.sensor sensor).judge (f.reading sensor) (s.threshold sensor) (s.releaseLevel sensor)).1 =
      s.levelMoved f sensor := by
  simp only [State.levelMoved, State.releaseLevel]
  obtain ⟨level, gate⟩ := s.haz.sensor sensor
  cases level <;> simp only [CliffSensor.judge] <;> split <;> rfl

end Sys2Proof.Machine
end

