-- ==== Sys2Proof/WellFormed.lean ====
section
/-! DEFINITION. The commands that stand for an event that can happen: sizes of frames, and each row used for what it names. -/

namespace Sys2Proof

open Sys2Proof.Machine

/-- A payload fits a frame: LEN is 0..200 (R177). -/
def payloadFits (payload : List Byte) : Bool := decide (payload.length ≤ 200)

/-- The kind byte and payload of a frame that no row but UNKNOWN_KIND names: a kind that is not
downstream, or a QUERY without a subject of the table (R180, R183; log entry 17). -/
def noRowNames (kind : Byte) (payload : List Byte) : Bool :=
  match NKind.ofByte kind with
  | none => true
  | some .query =>
    match payload with
    | _ :: subject :: _ => decide (7 < subject.toNat)
    | _ => true
  | some _ => false

/-- An intact D-link or S-link frame that its port does not hand on (R179). -/
def wrongKind (link : Link) (kind : Byte) (payload : List Byte) : Bool :=
  match link with
  | .n => false
  | .d => !(kind == kindOdom && payload.length == 7)
  | .s => !(kind == kindSense && payload.length == 16)

/-- The command stands for an event of the part. -/
def Instr.wellFormed : Instr → Bool
  | .powerOnReset _ _ _ => true
  | .pinReset _ _ _ => true
  | .endOfStartUp => true
  | .move p => payloadFits p
  | .keep p => payloadFits p
  | .resume p => payloadFits p
  | .dock p => payloadFits p
  | .undock p => payloadFits p
  | .pose p => payloadFits p
  | .tileFill p => payloadFits p
  | .tileRun p => payloadFits p
  | .classRecord p => payloadFits p
  | .beacon p => payloadFits p
  | .config p => payloadFits p
  | .mask p => payloadFits p
  | .ack p => payloadFits p
  | .save p => payloadFits p
  | .storeClear p => payloadFits p
  | .queryStatus req args => payloadFits (req :: 0 :: args)
  | .querySegments req args => payloadFits (req :: 1 :: args)
  | .queryTiles req args => payloadFits (req :: 2 :: args)
  | .queryClass req args => payloadFits (req :: 3 :: args)
  | .queryBeacon req args => payloadFits (req :: 4 :: args)
  | .queryConfig req args => payloadFits (req :: 5 :: args)
  | .queryPages req args => payloadFits (req :: 6 :: args)
  | .queryCounters req args => payloadFits (req :: 7 :: args)
  | .reset p => payloadFits p
  | .unknownKind kind p => payloadFits p && noRowNames kind p
  | .frameDiscard _ bytes _ => decide (bytes.length ≤ 204)
  | .interByteTimeout _ bytes => decide (bytes.length ≤ 203)
  | .wrongKindFrame link kind p => payloadFits p && wrongKind link kind p
  | .odom p => p.length == 7
  | .sense p => p.length == 16
  | .drivePeriod _ => true
  | .responseTimerExpiry => true
  | .guardTimerExpiry => true
  | .cadenceExpiry => true
  | .limpGraceExpiry => true
  | .sensorLossExpiry => true
  | .approachTimerExpiry => true
  | .beamLostExpiry => true
  | .settleExpiry => true
  | .telemetryExpiry => true
  | .completion => true
  | .verifyFailure _ => true
  | .departure => true
  | .powerLoss _ => true
  | .syncFound _ => true

end Sys2Proof
end

