-- ==== Sys2Proof/Laws/PerInstr.lean ====
section
/-! SUPPORT. For every command: a well-formed command carries no more bytes than a frame holds (R177). -/

namespace Sys2Proof.Laws.WellFormedBound

open Sys2Proof.Machine

/-- The bytes a command carries: a frame's payload, or the bytes received inside a frame. -/
def carried : Instr → Nat
  | .powerOnReset _ _ _ => 0
  | .pinReset _ _ _ => 0
  | .endOfStartUp => 0
  | .move payload => payload.length
  | .keep payload => payload.length
  | .resume payload => payload.length
  | .dock payload => payload.length
  | .undock payload => payload.length
  | .pose payload => payload.length
  | .tileFill payload => payload.length
  | .tileRun payload => payload.length
  | .classRecord payload => payload.length
  | .beacon payload => payload.length
  | .config payload => payload.length
  | .mask payload => payload.length
  | .ack payload => payload.length
  | .save payload => payload.length
  | .storeClear payload => payload.length
  | .queryStatus _ args => args.length + 2
  | .querySegments _ args => args.length + 2
  | .queryTiles _ args => args.length + 2
  | .queryClass _ args => args.length + 2
  | .queryBeacon _ args => args.length + 2
  | .queryConfig _ args => args.length + 2
  | .queryPages _ args => args.length + 2
  | .queryCounters _ args => args.length + 2
  | .reset payload => payload.length
  | .unknownKind _ payload => payload.length
  | .frameDiscard _ bytes _ => bytes.length
  | .interByteTimeout _ bytes => bytes.length
  | .wrongKindFrame _ _ payload => payload.length
  | .odom payload => payload.length
  | .sense payload => payload.length
  | .drivePeriod _ => 0
  | .responseTimerExpiry => 0
  | .guardTimerExpiry => 0
  | .cadenceExpiry => 0
  | .limpGraceExpiry => 0
  | .sensorLossExpiry => 0
  | .approachTimerExpiry => 0
  | .beamLostExpiry => 0
  | .settleExpiry => 0
  | .telemetryExpiry => 0
  | .completion => 0
  | .verifyFailure _ => 0
  | .departure => 0
  | .powerLoss _ => 0
  | .syncFound _ => 0

/-- A well-formed command carries at most 204 bytes: KIND, LEN, 200 payload bytes and CHECK. -/
def Statement (i : Instr) : Prop := i.wellFormed = true → carried i ≤ 204

theorem powerOnReset (nrate1 : Bool) (nrate0 : Bool) (reach : SaveReach) : Statement (.powerOnReset nrate1 nrate0 reach) := fun _ => Nat.zero_le _
theorem pinReset (nrate1 : Bool) (nrate0 : Bool) (reach : SaveReach) : Statement (.pinReset nrate1 nrate0 reach) := fun _ => Nat.zero_le _
theorem endOfStartUp : Statement .endOfStartUp := fun _ => Nat.zero_le _
theorem move (payload : List Byte) : Statement (.move payload) := by
  intro h; simp [Instr.wellFormed, payloadFits] at h; simp only [carried]; omega
theorem keep (payload : List Byte) : Statement (.keep payload) := by
  intro h; simp [Instr.wellFormed, payloadFits] at h; simp only [carried]; omega
theorem resume (payload : List Byte) : Statement (.resume payload) := by
  intro h; simp [Instr.wellFormed, payloadFits] at h; simp only [carried]; omega
theorem dock (payload : List Byte) : Statement (.dock payload) := by
  intro h; simp [Instr.wellFormed, payloadFits] at h; simp only [carried]; omega
theorem undock (payload : List Byte) : Statement (.undock payload) := by
  intro h; simp [Instr.wellFormed, payloadFits] at h; simp only [carried]; omega
theorem pose (payload : List Byte) : Statement (.pose payload) := by
  intro h; simp [Instr.wellFormed, payloadFits] at h; simp only [carried]; omega
theorem tileFill (payload : List Byte) : Statement (.tileFill payload) := by
  intro h; simp [Instr.wellFormed, payloadFits] at h; simp only [carried]; omega
theorem tileRun (payload : List Byte) : Statement (.tileRun payload) := by
  intro h; simp [Instr.wellFormed, payloadFits] at h; simp only [carried]; omega
theorem classRecord (payload : List Byte) : Statement (.classRecord payload) := by
  intro h; simp [Instr.wellFormed, payloadFits] at h; simp only [carried]; omega
theorem beacon (payload : List Byte) : Statement (.beacon payload) := by
  intro h; simp [Instr.wellFormed, payloadFits] at h; simp only [carried]; omega
theorem config (payload : List Byte) : Statement (.config payload) := by
  intro h; simp [Instr.wellFormed, payloadFits] at h; simp only [carried]; omega
theorem mask (payload : List Byte) : Statement (.mask payload) := by
  intro h; simp [Instr.wellFormed, payloadFits] at h; simp only [carried]; omega
theorem ack (payload : List Byte) : Statement (.ack payload) := by
  intro h; simp [Instr.wellFormed, payloadFits] at h; simp only [carried]; omega
theorem save (payload : List Byte) : Statement (.save payload) := by
  intro h; simp [Instr.wellFormed, payloadFits] at h; simp only [carried]; omega
theorem storeClear (payload : List Byte) : Statement (.storeClear payload) := by
  intro h; simp [Instr.wellFormed, payloadFits] at h; simp only [carried]; omega
theorem queryStatus (req : Byte) (args : List Byte) : Statement (.queryStatus req args) := by
  intro h; simp [Instr.wellFormed, payloadFits] at h; simp only [carried]; omega
theorem querySegments (req : Byte) (args : List Byte) : Statement (.querySegments req args) := by
  intro h; simp [Instr.wellFormed, payloadFits] at h; simp only [carried]; omega
theorem queryTiles (req : Byte) (args : List Byte) : Statement (.queryTiles req args) := by
  intro h; simp [Instr.wellFormed, payloadFits] at h; simp only [carried]; omega
theorem queryClass (req : Byte) (args : List Byte) : Statement (.queryClass req args) := by
  intro h; simp [Instr.wellFormed, payloadFits] at h; simp only [carried]; omega
theorem queryBeacon (req : Byte) (args : List Byte) : Statement (.queryBeacon req args) := by
  intro h; simp [Instr.wellFormed, payloadFits] at h; simp only [carried]; omega
theorem queryConfig (req : Byte) (args : List Byte) : Statement (.queryConfig req args) := by
  intro h; simp [Instr.wellFormed, payloadFits] at h; simp only [carried]; omega
theorem queryPages (req : Byte) (args : List Byte) : Statement (.queryPages req args) := by
  intro h; simp [Instr.wellFormed, payloadFits] at h; simp only [carried]; omega
theorem queryCounters (req : Byte) (args : List Byte) : Statement (.queryCounters req args) := by
  intro h; simp [Instr.wellFormed, payloadFits] at h; simp only [carried]; omega
theorem reset (payload : List Byte) : Statement (.reset payload) := by
  intro h; simp [Instr.wellFormed, payloadFits] at h; simp only [carried]; omega
theorem unknownKind (kind : Byte) (payload : List Byte) : Statement (.unknownKind kind payload) := by
  intro h; simp [Instr.wellFormed, payloadFits] at h; simp only [carried]; omega
theorem frameDiscard (link : Link) (bytes : List Byte) (byteError : Bool) : Statement (.frameDiscard link bytes byteError) := by
  intro h; simp [Instr.wellFormed] at h; simp only [carried]; omega
theorem interByteTimeout (link : Link) (bytes : List Byte) : Statement (.interByteTimeout link bytes) := by
  intro h; simp [Instr.wellFormed] at h; simp only [carried]; omega
theorem wrongKindFrame (link : Link) (kind : Byte) (payload : List Byte) : Statement (.wrongKindFrame link kind payload) := by
  intro h; simp [Instr.wellFormed, payloadFits] at h; simp only [carried]; omega
theorem odom (payload : List Byte) : Statement (.odom payload) := by
  intro h; simp [Instr.wellFormed] at h; simp only [carried]; omega
theorem sense (payload : List Byte) : Statement (.sense payload) := by
  intro h; simp [Instr.wellFormed] at h; simp only [carried]; omega
theorem drivePeriod (order : PeriodOrder) : Statement (.drivePeriod order) := fun _ => Nat.zero_le _
theorem responseTimerExpiry : Statement .responseTimerExpiry := fun _ => Nat.zero_le _
theorem guardTimerExpiry : Statement .guardTimerExpiry := fun _ => Nat.zero_le _
theorem cadenceExpiry : Statement .cadenceExpiry := fun _ => Nat.zero_le _
theorem limpGraceExpiry : Statement .limpGraceExpiry := fun _ => Nat.zero_le _
theorem sensorLossExpiry : Statement .sensorLossExpiry := fun _ => Nat.zero_le _
theorem approachTimerExpiry : Statement .approachTimerExpiry := fun _ => Nat.zero_le _
theorem beamLostExpiry : Statement .beamLostExpiry := fun _ => Nat.zero_le _
theorem settleExpiry : Statement .settleExpiry := fun _ => Nat.zero_le _
theorem telemetryExpiry : Statement .telemetryExpiry := fun _ => Nat.zero_le _
theorem completion : Statement .completion := fun _ => Nat.zero_le _
theorem verifyFailure (step : FailStep) : Statement (.verifyFailure step) := fun _ => Nat.zero_le _
theorem departure : Statement .departure := fun _ => Nat.zero_le _
theorem powerLoss (reach : SaveReach) : Statement (.powerLoss reach) := fun _ => Nat.zero_le _
theorem syncFound (link : Link) : Statement (.syncFound link) := fun _ => Nat.zero_le _

end Sys2Proof.Laws.WellFormedBound
end

