-- ==== Sys2Proof/Tests/Slice0.lean ====
section
/-! SUPPORT. Tests: the well-formedness checks, small steps whose results the manual gives, and a witness for every statement with hypotheses. -/

namespace Sys2Proof.Tests

open Sys2Proof Sys2Proof.Machine

set_option Elab.async false

/-! ## Well-formedness: one ill-formed term per check -/

theorem test_payload_over_200_refused : (Instr.move (List.replicate 201 0)).wellFormed = false := by decide +kernel
theorem test_payload_200_accepted : (Instr.move (List.replicate 200 0)).wellFormed = true := by decide +kernel
theorem test_query_over_198_arguments_refused :
    (Instr.queryStatus 0 (List.replicate 199 0)).wellFormed = false := by decide +kernel
theorem test_unknown_kind_of_a_request_refused : (Instr.unknownKind 0x10 [1]).wellFormed = false := by decide +kernel
theorem test_unknown_kind_of_a_named_query_refused :
    (Instr.unknownKind 0x38 [1, 7]).wellFormed = false := by decide +kernel
theorem test_unknown_kind_of_an_unnamed_query_accepted :
    (Instr.unknownKind 0x38 [1, 8]).wellFormed = true := by decide +kernel
theorem test_unknown_kind_payload_refused :
    (Instr.unknownKind 0x77 (List.replicate 201 0)).wellFormed = false := by decide +kernel
theorem test_frame_discard_over_204_refused :
    (Instr.frameDiscard .n (List.replicate 205 0) false).wellFormed = false := by decide +kernel
theorem test_timeout_of_a_whole_frame_refused :
    (Instr.interByteTimeout .n (List.replicate 204 0)).wellFormed = false := by decide +kernel
theorem test_wrong_kind_on_the_n_link_refused :
    (Instr.wrongKindFrame .n 0x77 [1]).wellFormed = false := by decide +kernel
theorem test_wrong_kind_of_an_odom_refused :
    (Instr.wrongKindFrame .d 0xC0 (List.replicate 7 0)).wellFormed = false := by decide +kernel
theorem test_wrong_kind_of_a_sense_refused :
    (Instr.wrongKindFrame .s 0xD0 (List.replicate 16 0)).wellFormed = false := by decide +kernel
theorem test_odom_of_6_bytes_refused : (Instr.odom (List.replicate 6 0)).wellFormed = false := by decide +kernel
theorem test_sense_of_15_bytes_refused : (Instr.sense (List.replicate 15 0)).wellFormed = false := by decide +kernel

/-- The table gives no row any bits (log entry 24). -/
theorem test_no_word_spells_a_command : decodeTableWord 0 0 = none := by decide +kernel

/-! ## Small states -/

/-- The state after one command. -/
def after (c : Instr) (s : State) : State :=
  match exec c s with
  | .next t => t
  | _ => s

/-- A running part in IDLE, its output queue empty, its pose GOOD at the origin with a base. -/
def awake : State :=
  { State.reset with
    phase := .running
    haz := { HazardUnit.initial with
      fl := ⟨.safe, .armed⟩, fr := ⟨.safe, .armed⟩, sl := ⟨.safe, .armed⟩, sr := ⟨.safe, .armed⟩
      loss := some 30 }
    drv := { DriveExchange.initial with period := some ⟨10, 0⟩, stopN := true }
    pose := { PoseUnit.initial with quality := .good, base := some (5000, 5000) }
    rep := { ReportUnit.initial .power with tele := some 100 } }

/-- A running part in a travel state of the kind that needs nothing beside it. -/
def inState (t : Travel) : State := { awake with trv := { awake.trv with state := t } }

/-- A record of 3,000 mm at 350 mm/s. -/
def leg (tag : Nat) (state : SegState) : Segment :=
  { tag := tag, v := 350, w := 0, kind := .distance, extent := 3000, brush := .normal, side := true
    state := state, dist := 0, turn := 0, elapsed := 0, held := 0, clamped := false }

/-- A running part in CRUISE with the records given. -/
def cruising (queue : List Segment) : State :=
  { inState .cruise with seg := { queue := queue, lastBeat := some false, cadence := some 300 } }

/-- A running part in LIMP with one record. -/
def limping : State :=
  { inState .limp with
    seg := { queue := [leg 1 .active], lastBeat := some false, cadence := none }
    trv := { awake.trv with state := .limp, grace := some 2000 } }

/-- A running part in APPROACH in the substate given. -/
def approaching (sub : Substate) : State :=
  { inState .approach with dock := { awake.dock with
      sub := sub, approach := some 90000
      beamLost := if sub = .align ∨ sub = .creep then some 3000 else none
      settle := if sub = .settle then some 300 else none } }

/-- A running part in FAULT. -/
def faulted : State :=
  { inState .fault with drv := { awake.drv with stopN := false, fault := some .driveLost } }

/-- A running part in LOCKED. -/
def locked : State :=
  { inState .locked with
    drv := { awake.drv with stopN := false, fault := some .driveFault, faultCode := 0x21, period := none } }

/-- A running part with an exchange OUTSTANDING under tag 5. -/
def waiting (s : State) : State :=
  { s with drv := { s.drv with phase := .outstanding, exTag := 5, nextTag := 6, response := some 4 } }

/-- A running part saving page 7, page 9 listed behind it. -/
def saving : State :=
  { awake with store := { awake.store with
      list := [9], current := some ⟨7, [(0, 0x04)]⟩ } }

/-- A running part whose save of page 7 has failed. -/
def stuck : State :=
  { awake with store := { awake.store with
      list := [9], error := true, failedPage := some 7, failedStep := some .program } }

/-- Sixteen frames in the output queue. -/
def full (s : State) : State := { s with port := { s.port with out := List.replicate 16 ⟨0x82, [1]⟩ } }

/-- A SENSE frame: seq, four readings, bumps, drops, codes and contact. -/
def sample (seq : Byte) (fl fr sl sr : Nat) (switches : List Byte) : Instr :=
  .sense (seq :: carry16 fl ++ carry16 fr ++ carry16 sl ++ carry16 sr ++ switches)

/-- The codes of the upstream frames: kind and payload. -/
def sent (s : State) : List (Byte × List Byte) := s.port.out.map (fun f => (f.kind, f.payload))

/-! ## Supply, resets and start-up -/

/-- R176: NRATE1 at 1 selects 3 Mbit/s; R127: STOP_N is low from reset. -/
theorem test_power_on_reset : (after (.powerOnReset true false .erasing) awake).port.rate = .mbit3 ∧
    (after (.powerOnReset true false .erasing) awake).drv.stopN = false := by decide +kernel

/-- R170: a pin reset leaves cause PIN; R150: the save it cuts in its erase leaves page 7 TORN. -/
theorem test_pin_reset : (after (.pinReset false true .erasing) saving).rep.cause = .pin ∧
    (after (.pinReset false true .erasing) saving).store.slots[7] = .torn := by decide +kernel

/-- R170, R189: SYSTEM START, cause POWER, heads the queue. -/
theorem test_end_of_start_up : sent (after .endOfStartUp State.reset) =
    [(0x81, [7, 0, 1, 0, 0, 0, 0, 0, 0, 0, 0, 0, 0, 0])] := by decide +kernel

/-- R160: two TORN slots are reported after START, detail 2. -/
theorem test_end_of_start_up_torn :
    (sent (after .endOfStartUp { State.reset with store := { State.reset.store with
      slots := (State.reset.store.slots.set 3 .torn).set 200 .torn } }))[1]? =
    some (0x81, [6, 3, 1, 0, 0, 0, 0, 0, 0, 0, 0, 0, 0, 2]) := by decide +kernel

theorem test_power_loss : (after (.powerLoss .erasing) saving).phase = .off ∧
    (after (.powerLoss .erasing) saving).store.current = none := by decide +kernel

/-! ## Motion requests -/

/-- R50, R188: the first MOVE of a queue: OK, CRUISE, depth 1, none aborted. -/
theorem test_move_starts : sent (after (.move [9, 0, 0, 5, 94, 1, 0, 0, 0, 184, 11, 2, 1]) awake) =
    [(0x80, [9, 0x10, 0, 1, 1, 0])] := by decide +kernel

/-- R49, R51: v 700 is clamped to 600; REPLACE aborts one record. -/
theorem test_move_replaces :
    ((after (.move [9, 1, 1, 5, 188, 2, 0, 0, 0, 184, 11, 2, 1]) (cruising [leg 1 .active])).seg.queue.map
      (fun g => (g.tag, g.v, g.clamped)), (sent (after (.move [9, 1, 1, 5, 188, 2, 0, 0, 0, 184, 11, 2, 1])
        (cruising [leg 1 .active]))).head?) =
    ([(5, 600, true)], some (0x80, [9, 0x10, 1, 1, 1, 1])) := by decide +kernel

/-- R60: a KEEP with a new beat ends LIMP. -/
theorem test_keep_restores : (after (.keep [1, 1]) limping).trv.state = .cruise ∧
    (after (.keep [1, 1]) limping).seg.cadence = some 300 := by decide +kernel

/-- R47: the same beat again is STALE. -/
theorem test_keep_stale : sent (after (.keep [1, 0]) (cruising [leg 1 .active])) =
    [(0x80, [1, 0x11, 3, 1, 1])] := by decide +kernel

/-- R111: refused HALTED while the link is silent. -/
theorem test_resume_silent :
    sent (after (.resume [2]) { inState .halted with haz := { awake.haz with silent := true } }) =
    [(0x80, [2, 0x12, 7, 4, 1, 1, 1, 1, 0, 0, 0, 0, 1])] := by decide +kernel

/-- Section 7.9, t = 0: request 55 aborts 101 and 102; OK, CRUISE, NONE, yield 1. -/
theorem test_dock_yields :
    (sent (after (.dock [55]) (cruising [leg 100 .active, leg 101 .queued, leg 102 .queued]))).head? =
      some (0x80, [55, 0x13, 0, 1, 0, 1]) ∧
    (after (.dock [55]) (cruising [leg 100 .active, leg 101 .queued, leg 102 .queued])).seg.queue =
      [leg 100 .active] := by decide +kernel

/-- R145: DOCKED backs off UNDOCK_DIST, 200 mm. -/
theorem test_undock_backs_off :
    (after (.undock [3]) (inState .docked)).trv.backoff = some ⟨.undock, 200, 0, 0⟩ := by decide +kernel

/-- R39: the reply carries the pose as it stood before. -/
theorem test_pose_reply : sent (after (.pose [4, 1, 0, 0, 0, 2, 0, 0, 0, 0, 64, 2]) awake) =
    [(0x80, [4, 0x15, 0, 0, 0, 0, 0, 0, 0, 0, 0, 0, 0, 2])] := by decide +kernel

/-! ## Loads -/

/-- The map of section 1.9. -/
def sill : State :=
  { awake with map := { awake.map with
      tiles := ((((awake.map.tiles.write (tileAddress 126 130) 0x04).write (tileAddress 127 130) 0x04).write
        (tileAddress 129 130) 0x56)) } }

/-- Section 1.9: pieces 2, tiles changed 13, tiles protected 1. -/
theorem test_fill_across_pages : sent (after (.tileFill [17, 126, 130, 133, 131, 4, 0]) sill) =
    [(0x80, [17, 0x20, 0, 2, 0, 13, 0, 0, 0, 1, 0, 0, 0])] := by decide +kernel

/-- Section 1.9: request 18 with override changes one tile more. -/
theorem test_fill_with_override :
    sent (after (.tileFill [18, 126, 130, 133, 131, 4, 1])
      { after (.tileFill [17, 126, 130, 133, 131, 4, 0]) sill with port := awake.port }) =
    [(0x80, [18, 0x20, 0, 2, 0, 1, 0, 0, 0, 0, 0, 0, 0])] := by decide +kernel

/-- Section 1.9: CLAMPED, 18 placed, 9 changed, 1 protected. -/
theorem test_run_clipped :
    sent (after (.tileRun ([40, 238, 40, 0, 20, 1, 1] ++ List.replicate 8 3 ++ List.replicate 10 0))
      { awake with map := { awake.map with tiles := awake.map.tiles.write (tileAddress 241 40) 0x36 } }) =
    [(0x80, [40, 0x21, 1, 18, 9, 1])] := by decide +kernel

/-- Section 1.9: cap 900 is clamped to 700; the reply is CLAMPED: no, 700, NORMAL, allowed, 250. -/
theorem test_class_clamped : sent (after (.classRecord [5, 1, 0, 132, 3, 2, 1, 250, 0]) awake) =
    [(0x80, [5, 0x22, 1, 1, 0, 188, 2, 2, 1, 250, 0])] := by decide +kernel

/-- R19: CLIFF stays blocking. -/
theorem test_class_cliff_blocks : (after (.classRecord [5, 6, 0, 188, 2, 3, 1, 44, 1]) awake).map.record 6 =
    ⟨true, 700, .high, true, 300⟩ := by decide +kernel

/-- R139: v 200 is clamped to 150. -/
theorem test_beacon_clamped : sent (after (.beacon [6, 1, 2, 200, 0, 0, 0]) awake) =
    [(0x80, [6, 0x23, 1, 1, 2, 150, 0, 0, 0])] := by decide +kernel

/-! ## Management requests -/

/-- R182: REST_PERIOD (0x28) 105 becomes 100, CLAMPED. -/
theorem test_config_rounds : sent (after (.config [7, 0x28, 105, 0, 0, 0]) awake) =
    [(0x80, [7, 0x30, 1, 0x28, 100, 0, 0, 0])] := by decide +kernel

/-- R182: geometry is refused STATE in CRUISE. -/
theorem test_config_geometry :
    (sent (after (.config [7, 0x01, 105, 0, 0, 0]) (cruising [leg 1 .active]))).map (fun f => f.2[2]?) =
    [some 5] := by decide +kernel

theorem test_mask : sent (after (.mask [8, 0x81, 1]) awake) = [(0x80, [8, 0x31, 0, 0x81, 1, 0])] := by
  decide +kernel

/-- R169: clears what it names and nothing else. -/
theorem test_ack : sent (after (.ack [8, 0x01, 0x04])
    { awake with rep := { awake.rep with latches := 0x413 } }) = [(0x80, [8, 0x32, 0, 0x12, 0])] := by
  decide +kernel

/-- R152, R153: an IDLE store starts at once: 1 added, list 0, WORKING. -/
theorem test_save_starts : sent (after (.save [8, 0, 7]) awake) = [(0x80, [8, 0x33, 0, 1, 0, 0, 0, 1])] := by
  decide +kernel

/-- R157: without cancel the failed page is retried. -/
theorem test_store_clear_retries :
    (after (.storeClear [8, 0]) stuck).store.current.map CurrentSave.page = some 7 ∧
    (after (.storeClear [8, 0]) stuck).store.list = [9] := by decide +kernel

/-- R185, R170: the reply first, then SYSTEM START, cause SOFT, then POSE DEGRADED, RESET. -/
theorem test_soft_reset : sent (after (.reset [8]) awake) =
    [(0x80, [8, 0x3F, 0]), (0x81, [7, 0, 1, 0, 0, 0, 0, 0, 0, 0, 0, 0, 0, 2]),
     (0x81, [5, 0, 1, 0, 0, 0, 0, 0, 0, 0, 0, 0, 0, 3])] := by decide +kernel

/-! ## Queries (R188) -/

theorem test_query_status_length :
    (sent (after (.queryStatus 1 []) locked)).map (fun f => f.2.length) = [3 + 1 + 25] := by decide +kernel

theorem test_query_segments_length :
    (sent (after (.querySegments 1 []) (cruising (leg 1 .active :: List.replicate 7 (leg 2 .queued))))).map
      (fun f => f.2.length) = [182] := by decide +kernel

/-- R2, R21: row by row. -/
theorem test_query_tiles : sent (after (.queryTiles 1 [126, 129, 127, 130]) sill) =
    [(0x80, [1, 0x38, 0, 2, 126, 129, 127, 130, 0, 0, 4, 4])] := by decide +kernel

theorem test_query_class_length :
    (sent (after (.queryClass 1 []) locked)).map (fun f => f.2.length) = [3 + 1 + 112] := by decide +kernel

theorem test_query_beacon_length :
    (sent (after (.queryBeacon 1 []) awake)).map (fun f => f.2.length) = [3 + 1 + 100] := by decide +kernel

/-- R182: TRACK, 0x01, defaults to 230,000 = 0x00038270. -/
theorem test_query_config : sent (after (.queryConfig 1 [1]) awake) =
    [(0x80, [1, 0x38, 0, 5, 1, 0x70, 0x82, 3, 0])] := by decide +kernel

/-- R161: page 7 is being saved, page 9 listed; part 2 lists page 9. -/
theorem test_query_pages : sent (after (.queryPages 1 [2]) saving) =
    [(0x80, [1, 0x38, 0, 6, 1, 1, 0, 7, 0, 255, 255, 3, 9])] := by decide +kernel

/-- R174: the reply carries the counters as they stood before the clear. -/
theorem test_query_counters_clear :
    (after (.queryCounters 1 [1]) (after (.wrongKindFrame .d 0x77 []) awake)).rep.counters[1] = 0 ∧
    ((sent (after (.queryCounters 1 [1]) (after (.wrongKindFrame .d 0x77 []) awake))).map
      (fun f => f.2[6]?)) = [some 1] := by decide +kernel

/-! ## The lines -/

/-- R180: an unknown kind is answered KIND. -/
theorem test_unknown_kind : sent (after (.unknownKind 0x77 [1, 2]) awake) = [(0x80, [1, 0x77, 10])] := by
  decide +kernel

/-- R177: the CRC of "123456789". -/
theorem test_crc : crc [0x31, 0x32, 0x33, 0x34, 0x35, 0x36, 0x37, 0x38, 0x39] = 0x29B1 := by decide +kernel

/-- R178: LEN 201 is found as soon as it is read, and the 0xC5 after it starts the next frame. -/
theorem test_frame_discard :
    (after (.frameDiscard .n [0x10, 201] false) (after (.syncFound .n) awake)).port.rxN = .hunting ∧
    (after (.frameDiscard .n [0xC5, 201] false) (after (.syncFound .n) awake)).port.rxN =
      .inFrame [201] := by decide +kernel

theorem test_inter_byte_timeout :
    (after (.interByteTimeout .d [0xC0, 7, 1]) (after (.syncFound .d) awake)).rep.counters[1] = 1 := by
  decide +kernel

theorem test_sync_found : (after (.syncFound .s) awake).port.rxS = .inFrame [] := by decide +kernel

/-- R166: at the departure SEGMENT, class 2, is released. -/
theorem test_departure_releases :
    ((sent (after .departure (after (.dock [55]) (full (cruising [leg 100 .active]))))).length,
     (sent (after .departure { full awake with rep := { awake.rep with
        held := (awake.rep.held.set 2 (some ⟨awake.noteOf (.segmentAborted 22 .cliff), 3⟩)) } }))[15]?) =
    (15, some (0x81, [2, 1, 3, 0, 0, 0, 0, 0, 0, 0, 0, 0, 0, 2, 22])) := by decide +kernel

/-! ## The drive exchange -/

/-- Section 2.8: the pose after dl = 34, dr = 36 at h = 8,192. -/
theorem test_odom_diagonal :
    (fun s : State => (s.pose.x, s.pose.y, s.pose.h))
      (after (.odom [5, 0xAA, 0x13, 0xAC, 0x13, 0, 0])
        (waiting { awake with pose := { awake.pose with h := 8192 } })) = (2474, 2474, 8201) := by
  decide +kernel

/-- Section 6.9: status FAULT, code 0x21, inside the guard window: LOCKED. -/
theorem test_odom_locks :
    (fun s : State => (s.trv.state, s.drv.fault, s.drv.faultCode, s.drv.stopN))
      (after (.odom [5, 0x88, 0x13, 0x88, 0x13, 2, 0x21])
        (waiting { awake with drv := { awake.drv with guard := some 6002 } })) =
    (.locked, some .driveFault, 0x21, false) := by decide +kernel

/-- Section 4.13, GOOD: d 460, bound 300, both wheels 300, brushes NORMAL and on. -/
theorem test_drive_period_probe :
    (fun s : State => (s.env.lastD, s.env.lastBound, s.port.dTx))
      (after (.drivePeriod .envelopeFirst)
        { cruising [leg 1 .active] with
          pose := { awake.pose with x := 1234567, y := -50000 }
          env := { awake.env with p := 350 }
          map := { awake.map with
            tiles := (awake.map.tiles.write (tileAddress 141 127) 0x01).write
              (tileAddress 145 129) 0x06 } }) =
    (460, 300, [⟨0x40, [0, 44, 1, 44, 1, 2, 1]⟩]) := by decide +kernel

/-- Section 4.13, the reversal, period 1: v 32, wheels 54 and 10. -/
theorem test_drive_period_reversal :
    (fun s : State => (s.env.p, s.env.left, s.env.right))
      (after (.drivePeriod .envelopeFirst)
        { cruising [{ leg 1 .active with v := -100, w := 600 }] with env := { awake.env with p := 40 } }) =
    (32, 54, 10) := by decide +kernel

/-- Section 6.9: the third miss raises DRIVE_LOST. -/
theorem test_third_miss :
    (fun s : State => (s.trv.state, s.drv.misses, s.drv.fault))
      (after .responseTimerExpiry
        (waiting { cruising [leg 80 .active] with drv := { awake.drv with misses := 2 } })) =
    (.fault, 3, some .driveLost) := by decide +kernel

theorem test_guard_expiry :
    (after .guardTimerExpiry { awake with drv := { awake.drv with guard := some 0 } }).drv.guard = none := by
  decide +kernel

/-! ## Sensing and timers -/

/-- Section 5.9, frame 3 of the stairwell: the mark 0x36 on tile (136, 128), HALTED, the queue empty. -/
theorem test_stairwell_edge :
    (fun s : State => (s.map.tile 136 128, s.trv.state, s.seg.queue, s.haz.fl))
      (after (sample 1 62 700 700 700 [0, 0, 0, 0, 0, 0, 0])
        { cruising [leg 50 .active, leg 51 .queued] with
          pose := { awake.pose with x := 731000 }
          map := { awake.map with tiles := awake.map.tiles.write (tileAddress 136 128) 0x03 } }) =
    (0x36, .halted, [], ⟨.unsafe_, .spent⟩) := by decide +kernel

/-- Section 5.9, one frame with three hazards: three latches, no mark, six events, the frame forwarded. -/
theorem test_three_hazards :
    (fun s : State => (s.rep.latches, s.pose.quality, s.port.dTx, (sent s).map (fun f => f.2.take 2)))
      (after (sample 1 700 62 700 700 [0, 1, 1, 0, 0, 0, 0]) (cruising [leg 60 .active, leg 61 .queued])) =
    (0x62, .lost, [⟨0x41, []⟩],
     [[0, 1], [5, 1], [2, 1], [2, 1], [0, 0], [1, 0], [1, 188]]) := by decide +kernel

/-- R59: CADENCE_POLICY 1 enters LIMP. -/
theorem test_cadence_limp :
    (after .cadenceExpiry { cruising [leg 1 .active] with
      params := awake.params.set Param.cadencePolicy.index 1 }).trv.state = .limp := by decide +kernel

theorem test_limp_grace : (after .limpGraceExpiry limping).trv.state = .idle := by decide +kernel

/-- Section 5.9, t = 1,030. -/
theorem test_sensor_loss :
    (fun s : State => (s.trv.state, s.haz.silent, s.haz.loss)) (after .sensorLossExpiry (cruising [leg 70 .active])) =
    (.halted, true, some 30) := by decide +kernel

theorem test_approach_timeout :
    sent (after .approachTimerExpiry (approaching .seek)) =
    [(0x81, [4, 5, 1, 0, 0, 0, 0, 0, 0, 0, 0, 0, 0, 4])] := by decide +kernel

theorem test_beam_lost : (after .beamLostExpiry (approaching .creep)).dock.sub = .seek := by decide +kernel

/-- Section 7.9, t = 15,720: DOCK DOCKED, then POSE RESTORED. -/
theorem test_settle : (after .settleExpiry (approaching .settle)).trv.state = .docked ∧
    (sent (after .settleExpiry (approaching .settle))).map (fun f => f.2.take 2) = [[4, 4], [5, 2]] := by
  decide +kernel

/-- R181: skipped with 12 frames in the queue, and the timer restarts. -/
theorem test_telemetry_skips :
    (fun s : State => (s.rep.counters[5], s.rep.tele)) (after .telemetryExpiry (full awake)) = (1, some 100) := by
  decide +kernel

/-! ## Saves -/

theorem test_completion :
    (fun s : State => (s.store.slots[7], s.store.current.map CurrentSave.page, s.store.list))
      (after .completion saving) = (.valid, some 9, []) := by decide +kernel

theorem test_verify_failure :
    (fun s : State => (s.store.slots[7], s.store.error, s.map.dirty[7], s.store.list))
      (after (.verifyFailure .mark) saving) = (.torn, true, true, [9]) := by decide +kernel

/-- R150: a failure at step 2 stops the save with the complete mark absent. -/
theorem test_verify_failure_at_erase :
    (fun s : Slot => (s.begun, s.complete)) ((after (.verifyFailure .erase) saving).store.medium.slot 7) =
      (.written, .absent) := by decide +kernel

/-- An empty queue: one millisecond passes. -/
theorem test_tick : step { awake with drv := { awake.drv with guard := some 10 } } =
    .next (({ awake with drv := { awake.drv with guard := some 10 } } : State).tick) ∧
    ({ awake with drv := { awake.drv with guard := some 10 } } : State).tick.drv.guard = some 9 := by
  exact ⟨rfl, by decide⟩

/-! ## Witnesses: every statement's hypotheses hold together of a concrete state

Where a statement has several clauses, the theorem gives one state for each, at an end of its range where
it has one. -/

/-- The command ends in a next state. -/
def Runs (c : Instr) (s : State) : Prop := ∃ t, exec c s = .next t

/-- A part in CRUISE with a MOVE waiting, a page being saved and another listed, tiles on its map. -/
def busy : State :=
  { cruising [leg 1 .active, leg 2 .queued] with
    map := sill.map, store := saving.store
    pending := [.move [9, 1, 0, 5, 94, 1, 0, 0, 0, 184, 11, 2, 1]] }

theorem busy_steps : ∃ t, step busy = .next t := ⟨_, rfl⟩

theorem busy_motion : busy.MotionOk := ⟨by decide +kernel, by decide +kernel, by decide +kernel⟩
theorem faulted_motion : faulted.MotionOk := ⟨by decide +kernel, by decide +kernel, by decide +kernel⟩
theorem locked_motion : locked.MotionOk := ⟨by decide +kernel, by decide +kernel, by decide +kernel⟩
theorem reset_motion : State.reset.MotionOk := ⟨by decide +kernel, by decide +kernel, by decide +kernel⟩

/-- Its second clause, while the part runs and while it does not. -/
theorem witness_StepRunsFrontCommand : awake.pending = [] ∧ awake.phase = .running ∧
    State.reset.pending = [] ∧ State.reset.phase ≠ .running := by decide +kernel

theorem witness_StepKeepsMemoryCanonical : busy.MemoryOk ∧ ∃ t, step busy = .next t :=
  ⟨by decide +kernel, busy_steps⟩

theorem witness_StepKeepsTablesInRange : busy.TablesOk ∧ ∃ t, step busy = .next t :=
  ⟨by decide +kernel, busy_steps⟩

theorem witness_StepKeepsPoseAndEnvelopeInRange :
    (busy.TablesOk ∧ busy.MotionOk ∧ busy.PoseOk ∧ busy.EnvelopeOk) ∧ ∃ t, step busy = .next t :=
  ⟨⟨by decide +kernel, busy_motion, by decide +kernel, by decide +kernel⟩, busy_steps⟩

theorem witness_StepKeepsTravelStateConsistent : busy.MotionOk ∧ ∃ t, step busy = .next t :=
  ⟨busy_motion, busy_steps⟩

theorem witness_StepKeepsGateSpentOnlyWhileUnsafe :
    ({ busy with haz := { busy.haz with fl := ⟨.unsafe_, .spent⟩ } } : State).GatesOk ∧
    ∃ t, step { busy with haz := { busy.haz with fl := ⟨.unsafe_, .spent⟩ } } = .next t :=
  ⟨by decide +kernel, _, rfl⟩

theorem witness_StepKeepsMotorPowerOffInFault :
    (faulted.MotionOk ∧ faulted.DriveOk) ∧ (locked.MotionOk ∧ locked.DriveOk) ∧
    (State.reset.MotionOk ∧ State.reset.DriveOk) ∧ ∃ t, step faulted = .next t :=
  ⟨⟨faulted_motion, by decide +kernel⟩, ⟨locked_motion, by decide +kernel⟩,
   ⟨reset_motion, by decide +kernel⟩, _, rfl⟩

theorem witness_StepKeepsSaveListWithoutRepeats : busy.StoreOk ∧ stuck.StoreOk ∧ ∃ t, step busy = .next t :=
  ⟨by decide +kernel, by decide +kernel, busy_steps⟩

/-- A full queue with a class pending behind it. -/
def crowded : State :=
  { full awake with rep := { awake.rep with
      held := awake.rep.held.set 2 (some ⟨awake.noteOf (.segmentAborted 22 .cliff), 3⟩) } }

theorem witness_StepKeepsReportsInBounds : (crowded.TablesOk ∧ crowded.ReportsOk) ∧ ∃ t, step crowded = .next t :=
  ⟨by decide +kernel, _, rfl⟩

theorem witness_LockedIsLeftOnlyByHardReset :
    (locked.MotionOk ∧ locked.DriveOk ∧ locked.trv.state = .locked ∧ locked.phase = .running) ∧
    Runs (.reset [1]) locked ∧ Runs (.pinReset false false .erasing) locked :=
  ⟨⟨locked_motion, by decide +kernel, rfl, rfl⟩, ⟨_, rfl⟩, ⟨_, rfl⟩⟩

theorem witness_CountersFallOnlyByClear : awake.ReportsOk ∧ Runs (.queryCounters 1 [1]) awake ∧
    Runs (.wrongKindFrame .n NKind.query.code [1, 7, 1]) awake :=
  ⟨by decide +kernel, ⟨_, rfl⟩, ⟨_, rfl⟩⟩

theorem witness_ObservedTileIsGuarded :
    (sill.MemoryOk ∧ tileObserved (sill.map.tile 129 130) = true) ∧
    Runs (.tileFill [17, 126, 130, 133, 131, 4, 1]) sill ∧ Runs (.tileFill [17, 126, 130, 133, 131, 4, 0]) sill :=
  ⟨by decide +kernel, ⟨_, rfl⟩, ⟨_, rfl⟩⟩

/-- Both clauses: a part with supply, and one without. -/
theorem witness_HardResetGivesResetValues :
    awake.phase ≠ .off ∧ ({ awake with phase := .off } : State).phase = .off := by decide

/-- Medium slots in each of their states: BLANK, VALID, TORN by its bytes, TORN by a mark; position 255. -/
theorem witness_StartUpLoadReadsSlots :
    let m : Medium := [(1, ⟨.written, .written, [(255, 0x04)]⟩), (2, ⟨.written, .written, [(0, 0x80)]⟩),
      (255, ⟨.written, .absent, []⟩)]
    let s : State := { State.reset with store := { State.reset.store with medium := m } }
    s.MemoryOk ∧ (m.slot 0).begun = .absent ∧ (m.slot 0).complete = .absent ∧
    (m.slot 1).begun = .written ∧ (m.slot 1).complete = .written ∧ (m.slot 255).complete = .absent ∧
    Runs (.powerOnReset false false .erasing) s :=
  ⟨by decide +kernel, by decide +kernel, by decide +kernel, by decide +kernel, by decide +kernel,
   by decide +kernel, _, rfl⟩

theorem witness_CutSaveLeavesSlotWholeOrTorn :
    saving.store.medium.Ok ∧ saving.store.current = some ⟨7, [(0, 0x04)]⟩ ∧ (9 : Page) ≠ 7 := by decide +kernel

theorem witness_StartUpEndStartsThePart : State.reset.phase = .startUp := rfl

/-- With supply; without; in start-up, for a command other than its four. -/
theorem witness_PowerLossStopsThePart :
    awake.phase ≠ .off ∧ ({ awake with phase := .off } : State).phase = .off ∧ State.reset.phase = .startUp ∧
    (∀ n1 n0 reach, Instr.settleExpiry ≠ .powerOnReset n1 n0 reach) ∧
    (∀ n1 n0 reach, Instr.settleExpiry ≠ .pinReset n1 n0 reach) ∧ Instr.settleExpiry ≠ .endOfStartUp ∧
    ∀ reach, Instr.settleExpiry ≠ .powerLoss reach :=
  ⟨by decide, rfl, rfl, fun _ _ _ => by simp, fun _ _ _ => by simp, by simp, fun _ => by simp⟩

/-! ### The N-link port -/

/-- Each clause; a QUERY of subject 8 is the first out of range, one of subject 2 with three bytes is short. -/
theorem witness_PortRefusesBeforeTheOwner :
    (awake.phase = .running ∧ NKind.reset ≠ .query) ∧
    (16 ≤ (full awake).queued ∧ ¬(NKind.keep = .reset ∧ [] = ([] : List Byte) ∧ (full awake).trv.state ≠ .locked)) ∧
    (awake.queued < 16 ∧ layoutAllows .keep [1] = false) ∧
    (locked.phase = .running ∧ locked.queued < 16 ∧ layoutAllows .keep [1, 1] = true ∧
      locked.trv.state = .locked) ∧
    7 < (8 : Byte).toNat ∧ (7 : Byte).toNat ≤ 7 ∧ ([] : List Byte).length ≠ 1 ∧
    (2 : Byte).toNat ≤ 7 ∧ ([1, 2, 3] : List Byte).length ≠ 4 := by decide +kernel

theorem witness_FramesOfOtherKindsAreCounted :
    awake.phase = .running ∧ (full awake).phase = .running ∧ NKind.ofByte 0x77 = none ∧ awake.queued < 16 ∧
    16 ≤ (full awake).queued ∧ ¬((0xC0 : Byte) = 0xC0 ∧ ([1] : List Byte).length = 7) ∧
    ¬((0xD1 : Byte) = 0xD0 ∧ (List.replicate 16 (0 : Byte)).length = 16) := by decide +kernel

/-- LEN 201; a byte error in a frame not yet whole; a CHECK that does not match; a gap. -/
theorem witness_ReceiverTakesWholeFramesAndHuntsAgain :
    (awake.phase = .running ∧ awake.port.receiver .n = .hunting) ∧
    (after (.syncFound .n) awake).port.receiver .n = .inFrame [] ∧
    (List.replicate 200 (0 : Byte)).length ≤ 200 ∧
    200 < (byteAt [0x10, 201] 1).toNat ∧
    ¬(2 ≤ ([0x10] : List Byte).length ∧ (byteAt [0x10] 1).toNat ≤ 200 ∧ (byteAt [0x10] 1).toNat + 4 ≤ 1) ∧
    [byteAt [0x41, 0, 0, 0] 2, byteAt [0x41, 0, 0, 0] 3] ≠ bytes16 (crc [0x41, 0]) := by decide +kernel

/-! ### Motion requests -/

/-- A MOVE with the beat, placement, kind and extent given, v 350. -/
def request (beat placement kind : Byte) (extent : Nat) : List Byte :=
  [9, beat, placement, 5, 94, 1, 0, 0, kind] ++ carry16 extent ++ [2, 1]

theorem witness_MoveStartsCruise :
    let f := MoveFields.read (request 0 0 0 10000)
    awake.Takes ∧ (request 0 0 0 10000).length = 13 ∧ awake.trv.state = .idle ∧ awake.trv.yield = false ∧
    awake.seg.queue = [] ∧ awake.seg.FreshBeat f.beat ∧ f.Meaningful := by decide +kernel

/-- The premises of a MOVE that the queue takes in CRUISE or LIMP. -/
abbrev Judges (s : State) (p : List Byte) (placement : Nat) : Prop :=
  s.Takes ∧ p.length = 13 ∧ (s.trv.state = .cruise ∨ s.trv.state = .limp) ∧ s.trv.yield = false ∧ s.TravelOk ∧
  s.ApproachOk ∧ s.seg.queue.length ≤ 8 ∧ s.seg.FreshBeat (MoveFields.read p).beat ∧
  (MoveFields.read p).Meaningful ∧ (MoveFields.read p).placement = placement

/-- REPLACE, in CRUISE and in LIMP; APPEND in LIMP, and in CRUISE at 7 and at 8 records. -/
theorem witness_MoveAppendsOrReplacesInCruise :
    Judges (cruising [leg 1 .active]) (request 1 1 2 10) 1 ∧ Judges limping (request 1 1 2 10) 1 ∧
    Judges limping (request 1 0 0 1) 0 ∧
    Judges (cruising (leg 1 .active :: List.replicate 6 (leg 2 .queued))) (request 1 0 0 1) 0 ∧
    Judges (cruising (leg 1 .active :: List.replicate 7 (leg 2 .queued))) (request 1 0 0 1) 0 := by
  refine ⟨?_, ?_, ?_, ?_, ?_⟩ <;> decide +kernel

/-- A part in CRUISE with a yield pending. -/
def yielding : State :=
  { cruising [leg 1 .active] with
    trv := { awake.trv with state := .cruise, yield := true }
    seg := { queue := [leg 1 .active], lastBeat := some false, cadence := none } }

/-- Beat 2; the last beat again; YIELDED twice, HALTED and STATE. -/
theorem witness_RefusedMoveLeavesTheQueue :
    (awake.Takes ∧ 1 < (MoveFields.read (request 2 0 0 1)).beat) ∧
    ((cruising [leg 1 .active]).Takes ∧ (MoveFields.read (request 0 0 0 1)).beat ≤ 1 ∧
      (cruising [leg 1 .active]).seg.lastBeat = some (decide ((MoveFields.read (request 0 0 0 1)).beat = 1))) ∧
    ∀ s ∈ [yielding, inState .approach, inState .halted, inState .docked],
      s.Takes ∧ s.seg.FreshBeat (MoveFields.read (request 1 0 0 1)).beat := by decide +kernel

/-- Its last three clauses: an extent of 0, in IDLE, in CRUISE and in LIMP. -/
theorem witness_RefusedMoveLeavesTheQueue_senseless :
    ¬(MoveFields.read (request 1 0 0 0)).Meaningful ∧
    (∀ s ∈ [awake, cruising [leg 1 .active], limping],
      s.Takes ∧ s.seg.FreshBeat (MoveFields.read (request 1 0 0 0)).beat) ∧
    (awake.trv.state = .idle ∧ awake.seg.queue = []) ∧
    ((cruising [leg 1 .active]).trv.state = .cruise ∧ (cruising [leg 1 .active]).trv.yield = false ∧
      (cruising [leg 1 .active]).seg.queue ≠ []) ∧
    limping.trv.state = .limp ∧ limping.TravelOk ∧ limping.ApproachOk := by decide +kernel

/-- Beats 2, the last one, a new one; outside LIMP and in LIMP. -/
theorem witness_KeepHoldsTheCadence :
    let c := cruising [leg 1 .active]
    (c.Takes ∧ c.TravelOk) ∧ (limping.Takes ∧ limping.TravelOk) ∧ 1 < (2 : Byte).toNat ∧
    c.seg.lastBeat = some (decide ((0 : Byte).toNat = 1)) ∧ c.seg.FreshBeat (1 : Byte).toNat ∧
    c.trv.state ≠ .limp ∧ limping.seg.FreshBeat (1 : Byte).toNat ∧ limping.trv.state = .limp := by decide +kernel

theorem witness_ResumeByTravelState :
    (inState .halted).Takes ∧ ({ inState .halted with haz := { awake.haz with dropL := true } } : State).Takes ∧
    awake.Takes := by decide +kernel

theorem witness_DockByTravelState :
    awake.Takes ∧ (cruising [leg 1 .active, leg 2 .queued]).Takes ∧ (inState .halted).Takes := by decide +kernel

theorem witness_UndockByTravelState :
    ((inState .docked).Takes ∧ (inState .docked).TravelOk) ∧
    ((approaching .seek).Takes ∧ (approaching .seek).TravelOk) ∧ (yielding.Takes ∧ yielding.TravelOk) ∧
    (awake.Takes ∧ awake.TravelOk) := by decide +kernel

/-- A quality of 0, a point one off the map's edge, DOCKED, and a correction taken. -/
theorem witness_PoseCorrection :
    awake.Takes ∧ (inState .docked).Takes ∧
    ([4, 0, 0, 0, 0, 0, 0, 0, 0, 0, 0, 2] : List Byte).length = 12 ∧
    12799999 < signed32At [4, 0x00, 0x50, 0xC3, 0, 0, 0, 0, 0, 0, 0, 2] 1 ∧
    signed32At [4, 0xFF, 0x4F, 0xC3, 0, 0, 0, 0, 0, 0, 0, 2] 1 = 12799999 := by decide +kernel

/-! ### Loads and management -/

/-- A rectangle out of order, and one whose corners are the same tile, the map's last. -/
theorem witness_TileFillWritesItsRectangle :
    (sill.Takes ∧ sill.map.Ok) ∧ ([1, 255, 255, 255, 255, 15, 1] : List Byte).length = 7 ∧
    (FillFields.read [1, 255, 255, 254, 255, 15, 1]).tx1 < (FillFields.read [1, 255, 255, 254, 255, 15, 1]).tx0 := by
  decide +kernel

/-- A count of 0, and a run of two from tx 255, one of them dropped. -/
theorem witness_TileRunWritesItsRow :
    (sill.Takes ∧ sill.map.Ok) ∧
    (let p : List Byte := [1, 0, 0, 0, 0]
     5 ≤ p.length ∧ p.length ≤ 195 ∧ p.length = 5 + (byteAt p 4).toNat) ∧
    (let p : List Byte := [1, 255, 0, 0, 2, 3, 15]
     5 ≤ p.length ∧ p.length ≤ 195 ∧ p.length = 5 + (byteAt p 4).toNat) ∧
    (let p : List Byte := [1, 0, 0, 0, 190] ++ List.replicate 190 3
     5 ≤ p.length ∧ p.length = 195 ∧ p.length = 5 + (byteAt p 4).toNat) := by decide +kernel

/-- A class of 16 and of 15; a left code of 5 and of 4. -/
theorem witness_ClassAndBeaconRecordsAreStoredClamped :
    (awake.Takes ∧ ([5, 16, 0, 0, 0, 0, 0, 0, 0] : List Byte).length = 9 ∧
      15 < (ClassFields.read [5, 16, 0, 0, 0, 0, 0, 0, 0]).cls ∧
      ¬15 < (ClassFields.read [5, 15, 0, 0, 0, 0, 0, 0, 0]).cls) ∧
    ([6, 5, 4, 0, 0, 0, 0] : List Byte).length = 7 ∧ 4 < (byteAt [6, 5, 4, 0, 0, 0, 0] 1).toNat ∧
    ¬4 < (byteAt [6, 4, 4, 0, 0, 0, 0] 1).toNat := by decide +kernel

/-- No parameter; geometry outside its four states; the last parameter. -/
theorem witness_ConfigStoresAClampedValue :
    awake.Takes ∧ (cruising [leg 1 .active]).Takes ∧ ([7, 0x32, 0, 0, 0, 0] : List Byte).length = 6 ∧
    Param.ofId 0x32 = none ∧ Param.ofId 0 = none ∧ Param.ofId 0x31 = some .autoSave ∧
    Param.ofId 0x01 = some .track ∧ Param.track.row.geometry = true := by decide +kernel

theorem witness_MaskSetsAndReleases : awake.Takes ∧ 1 < (2 : Byte).toNat := by decide +kernel

theorem witness_AckClearsExactlyTheNamedLatches :
    awake.Takes ∧ 16 ≤ (16 : Byte).toNat ∧ ¬16 ≤ (15 : Byte).toNat := by decide +kernel

/-- An IDLE, a WORKING and an ERROR store; a map. -/
theorem witness_SaveListsPagesAndStarts :
    (awake.Takes ∧ awake.StoreOk) ∧ (saving.Takes ∧ saving.StoreOk) ∧ (stuck.Takes ∧ stuck.StoreOk) ∧
    sill.map.Ok :=
  ⟨by decide +kernel, by decide +kernel, by decide +kernel, by decide +kernel⟩

theorem witness_StoreClearRetriesOrCancels :
    (stuck.Takes ∧ stuck.StoreOk ∧ (stuck.store.error = true → stuck.store.failedPage = some 7)) ∧
    (saving.Takes ∧ saving.StoreOk ∧ (saving.store.error = true → saving.store.failedPage = some 7)) := by
  decide +kernel

theorem witness_SaveEndsByCompletionOrFailure :
    saving.phase = .running ∧ saving.StoreOk ∧ saving.store.current = some ⟨7, [(0, 0x04)]⟩ := by decide +kernel

/-- 190 tiles and 191. -/
theorem witness_QueryTilesReadsTheMap :
    locked.Serves ∧ ¬190 < (9 - 0 + 1) * (18 - 0 + 1) ∧ 190 < (190 - 0 + 1) * (0 - 0 + 1) := by decide +kernel

theorem witness_QueryClassReadsTheTable : locked.Serves ∧ locked.map.ClassesOk := by decide +kernel

theorem witness_QueriesAnswerAndChangeNothing :
    locked.Serves ∧ 3 < (4 : Byte).toNat ∧ 1 < (2 : Byte).toNat := by decide +kernel

theorem witness_SoftResetGivesSoftValues :
    (awake.phase = .running ∧ awake.trv.state ≠ .locked) ∧
    (faulted.phase = .running ∧ faulted.trv.state ≠ .locked) := by decide

/-- Reporting disabled; a NOTE sent; a class held; a departure without and with a class to release. -/
theorem witness_EventsAreSentOrHeldAndReleased :
    ({ awake with rep := { awake.rep with enable := false } } : State).rep.enable = false ∧
    (awake.rep.enable = true ∧ awake.rep.masks[(Event.cls .docked).number] = false ∧
      awake.rep.held[(Event.cls .docked).number] = none ∧ awake.queued < 16) ∧
    (crowded.rep.enable = true ∧ ¬crowded.queued < 16) ∧
    (crowded.phase = .running ∧ crowded.port.out = ⟨0x82, [1]⟩ :: List.replicate 15 ⟨0x82, [1]⟩ ∧
      crowded.ReportsOk ∧ crowded.rep.masks[2] = false ∧
      crowded.rep.held[2] = some ⟨awake.noteOf (.segmentAborted 22 .cliff), 3⟩ ∧
      ∀ d : Fin 8, d < 2 → crowded.rep.masks[d] = true ∨ crowded.rep.held[d] = none) ∧
    ((full awake).ReportsOk ∧ ∀ c : Fin 8, (full awake).rep.masks[c] = false → (full awake).rep.held[c] = none) := by
  decide +kernel

/-! ### The drive -/

/-- LATE, STRAY, a miss below the limit, and a miss in FAULT with the count at 254. -/
theorem witness_MissesAndStraysAreCounted :
    (let s : State := { waiting awake with drv := { (waiting awake).drv with phase := .missed, response := none } }
     s.phase = .running ∧ s.drv.phase = .missed ∧ (byteAt [5, 0, 0, 0, 0, 0, 0] 0).toNat = s.drv.exTag) ∧
    (awake.phase = .running ∧ awake.drv.phase = .clear) ∧
    (let s := waiting awake
     s.phase = .running ∧ s.drv.response.isSome = true ∧ s.drv.misses ≤ 254 ∧
       s.drv.misses + 1 < s.paramNat .missLimit) ∧
    (let s := waiting { faulted with drv := { faulted.drv with misses := 254 } }
     s.phase = .running ∧ s.drv.response.isSome = true ∧ s.drv.misses ≤ 254 ∧ s.trv.state = .fault) := by
  decide +kernel

/-- The premises of an ODOM that answers the outstanding exchange below WAIT_LIMIT. -/
abbrev Answers (s : State) (p : List Byte) : Prop :=
  s.phase = .running ∧ p.length = 7 ∧ s.drv.phase = .outstanding ∧ (byteAt p 0).toNat = s.drv.exTag ∧
  s.TravelOk ∧ s.ParamsOk ∧ (byteAt p 5 = 0 ∨ byteAt p 5 = 1 ∧ s.drv.waits + 1 < s.paramNat .waitLimit)

/-- No base; a jump of 401 ticks and a step of 400; the last WAIT below WAIT_LIMIT; the stall that reaches
ODOM_CHECK_K; a back-off; the last record under a yield; a record behind the ACTIVE one. -/
theorem witness_AnswerIntegratesTheStep :
    let far : List Byte := [5, 0x18, 0x15, 0x18, 0x15, 0, 0]
    (let s := waiting { awake with pose := { awake.pose with base := none } }
     Answers s far ∧ s.pose.base = none) ∧
    (let s := waiting (cruising [leg 1 .active])
     Answers s [5, 0x19, 0x15, 0x88, 0x13, 0, 0] ∧ Answers s far ∧ s.pose.base = some (5000, 5000) ∧
       s.paramNat .maxTicks < ((BitVec.ofInt 16 ((0x1519 : Int) - 5000)).toInt).natAbs ∧
       s.paramNat .maxTicks = ((BitVec.ofInt 16 ((0x1518 : Int) - 5000)).toInt).natAbs) ∧
    (let s := waiting { awake with drv := { awake.drv with waits := 98 } }
     Answers s [5, 0x88, 0x13, 0x88, 0x13, 1, 0]) ∧
    (let s := waiting { cruising [leg 1 .active] with
        pose := { awake.pose with stallL := awake.paramNat .odomCheckK - 1 }, drv := { awake.drv with sentL := 50 } }
     Answers s [5, 0x88, 0x13, 0x88, 0x13, 0, 0] ∧ s.paramNat .odomCheckK ≤ s.pose.stallL + 1) ∧
    Answers (waiting { inState .backoff with
      trv := { awake.trv with state := .backoff, backoff := some ⟨.undock, 200, 199999, 0⟩ } }) far ∧
    Answers (waiting yielding) far ∧ Answers (waiting busy) far := by
  refine ⟨?_, ?_, ?_, ?_, ?_, ?_, ?_⟩ <;> decide +kernel

/-- Status 2; the WAIT that reaches WAIT_LIMIT; the miss that reaches MISS_LIMIT. -/
theorem witness_DriveFaultStopsTheRobot :
    (let s := waiting (cruising [leg 1 .active])
     s.phase = .running ∧ s.ParamsOk ∧ s.trv.state ≠ .fault ∧ s.trv.state ≠ .locked ∧
       s.drv.phase = .outstanding ∧ (byteAt [5, 0, 0, 0, 0, 2, 0x21] 0).toNat = s.drv.exTag ∧
       2 ≤ (byteAt [5, 0, 0, 0, 0, 2, 0x21] 5).toNat) ∧
    (let s := waiting { inState .docked with drv := { awake.drv with waits := 99 } }
     s.phase = .running ∧ s.ParamsOk ∧ s.trv.state ≠ .fault ∧ s.trv.state ≠ .locked ∧
       s.drv.phase = .outstanding ∧ s.paramNat .waitLimit ≤ s.drv.waits + 1) ∧
    (let s := waiting { cruising [leg 1 .active] with drv := { awake.drv with misses := 2, guard := some 1 } }
     s.phase = .running ∧ s.ParamsOk ∧ s.trv.state ≠ .fault ∧ s.trv.state ≠ .locked ∧
       s.drv.response.isSome = true ∧ s.paramNat .missLimit ≤ s.drv.misses + 1) := by decide +kernel

theorem witness_ForcedStopSendsZero :
    ∀ s ∈ [inState .halted, faulted, inState .docked, approaching .settle],
      s.phase = .running ∧ s.drv.period.isSome = true ∧ s.seg.queue = [] ∧
      (s.trv.state = .halted ∨ s.trv.state = .fault ∨ s.trv.state = .docked ∨
        s.trv.state = .approach ∧ s.dock.sub = .settle) := by decide +kernel

/-- A record held up to HOLD_LIMIT, without and with a yield; a TIME record up to its extent; a back-off held
up to HOLD_LIMIT. -/
theorem witness_DrivePeriodPlaysItsComputation :
    let limit := awake.paramNat .holdLimit
    ∀ s ∈ [cruising [{ leg 1 .active with held := limit - 10 }],
        { yielding with seg := { yielding.seg with queue := [{ leg 1 .active with held := limit - 10 }] } },
        cruising [{ leg 1 .active with kind := .time, elapsed := 2990 }, leg 2 .queued],
        { inState .backoff with
          trv := { awake.trv with state := .backoff, backoff := some ⟨.bump, 80, 0, limit - 10⟩ } }],
      s.phase = .running ∧ s.drv.period.isSome = true ∧ s.TravelOk := by decide +kernel

theorem witness_WheelMeanWithinBound :
    (busy.phase = .running ∧ busy.drv.period.isSome = true ∧ busy.TablesOk) ∧
    (let s : State := { busy with haz := { busy.haz with sr := ⟨.unsafe_, .spent⟩ } }
     s.haz.anyUnsafe = true ∧ s.TablesOk) := by decide +kernel

/-- The ends of DECEL and MARGIN, d at MARGIN and at 1,280; a computation with a direction. -/
theorem witness_LawSpeedIsTheStoppingLaw :
    (200 ≤ (200 : Int) ∧ (2000 : Int) ≤ 2000 ∧ 20 ≤ (20 : Int) ∧ (200 : Int) ≤ 200 ∧ (1280 : Int) ≤ 1280 ∧
      (20 : Int) < 1280) ∧
    ramp (rampStep (busy.param .accel)) (rampStep (busy.param .decel)) busy.env.p 350 ≠ 0 := by decide +kernel

/-- Each travel state with a target, the codes of ALIGN and CREEP dark, NEAR and neither; the forced stops. -/
theorem witness_TargetByTravelState :
    let seen (s : State) (l r : Code) : State := { s with dock := { s.dock with codeL := l, codeR := r } }
    (cruising [leg 1 .active]).target = some ⟨350, 0⟩ ∧ limping.target = some ⟨350, 0⟩ ∧
    (approaching .seek).target = some ⟨0, 400⟩ ∧
    [(Code.none_, Code.none_), (.near, .near), (.left, .none_), (.center, .left)].map
        (fun c => (seen (approaching .align) c.1 c.2).target) =
      [some ⟨0, 0⟩, some ⟨0, 0⟩, some ⟨0, 500⟩, some ⟨100, 300⟩] ∧
    [(Code.none_, Code.none_), (.near, .near), (.left, .none_), (.center, .left)].map
        (fun c => (seen (approaching .creep) c.1 c.2).target) =
      [some ⟨0, 0⟩, some ⟨60, 0⟩, some ⟨60, 500⟩, some ⟨60, 300⟩] ∧
    [inState .halted, faulted, inState .docked, approaching .settle].map State.target =
      [none, none, none, none] := by decide +kernel

theorem witness_ComputationFollowsTheTargetWithinTheBound :
    (busy.TablesOk ∧ busy.target = some ⟨350, 0⟩) ∧ (awake.TablesOk ∧ awake.target = some ⟨0, 0⟩) ∧
    (let s := { inState .backoff with }
     s.TablesOk ∧ s.target = some ⟨-120, 0⟩) := by decide +kernel

/-! ### Sensing and timers -/

/-- A SENSE payload: the reading of FL, the other readings 700, and the seven bytes after them. -/
def hub (fl : Nat) (rest : List Byte) : List Byte :=
  [1] ++ carry16 fl ++ carry16 700 ++ carry16 700 ++ carry16 700 ++ rest

/-- FL at its threshold, 300, makes no edge; a frame that is due, one that is not, and one without room. -/
theorem witness_QuietFrameMovesTheLevels :
    (awake.phase = .running ∧ (hub 300 [0, 0, 0, 0, 0, 0, 0]).length = 16 ∧
      awake.haz.NoDropEdge (.read (hub 300 [0, 0, 0, 0, 0, 0, 0])) ∧
      awake.haz.NoBumpEdge (.read (hub 300 [0, 0, 0, 0, 0, 0, 0])) ∧
      ∀ sensor ∈ [Sensor.fl, .fr, .sl, .sr],
        awake.NoCliffEdge (.read (hub 300 [0, 0, 0, 0, 0, 0, 0])) sensor) ∧
    (let s : State := { awake with rep := { awake.rep with fwd := awake.paramNat .forwardDecim - 1 } }
     s.paramNat .forwardDecim ≠ 0 ∧ s.paramNat .forwardDecim ≤ s.rep.fwd + 1 ∧ s.queued < 12) ∧
    ¬awake.paramNat .forwardDecim ≤ awake.rep.fwd + 1 ∧ ¬(full awake).queued < 12 := by decide +kernel

/-- A wheel-drop edge; FL one below its threshold, alone, over a tile on the map. -/
theorem witness_HazardEdgesHaltTheRobot :
    let s := cruising [leg 1 .active]
    (s.phase = .running ∧ s.MemoryOk) ∧
    ((hub 700 [0, 0, 1, 0, 0, 0, 0]).length = 16 ∧ ¬s.haz.NoDropEdge (.read (hub 700 [0, 0, 1, 0, 0, 0, 0]))) ∧
    (let f := SenseFields.read (hub 299 [0, 0, 0, 0, 0, 0, 0])
     s.haz.NoDropEdge f ∧ s.CliffEdge f .fl ∧
       (∀ other ∈ [Sensor.fl, .fr, .sl, .sr], other.number < Sensor.fl.number → s.NoCliffEdge f other) ∧
       s.trv.state.moving = true ∧ s.trv.state ≠ .docked ∧ s.pose.quality ≠ .lost ∧
       pointTile (s.projected .fl).1 (s.projected .fl).2 = some (129, 128)) ∧
    (inState .docked).CliffEdge (.read (hub 299 [0, 0, 0, 0, 0, 0, 0])) .fl := by decide +kernel

/-- A frame whose only edge is a wheel-drop edge; one whose only edge is FL's cliff edge, over a tile on the map
whose mark makes no other sensor's edge. -/
theorem witness_HazardEdgesAlone :
    let s := cruising [leg 1 .active]
    let drop := SenseFields.read (hub 700 [0, 0, 1, 0, 0, 0, 0])
    let cliff := SenseFields.read (hub 299 [0, 0, 0, 0, 0, 0, 0])
    let lost : State := { s with pose := { s.pose with quality := .lost } }
    let marked : State := { s with map := (s.tileMarked 129 128).map }
    (¬s.haz.NoDropEdge drop ∧ s.haz.NoBumpEdge drop ∧
      ∀ sensor ∈ [Sensor.fl, .fr, .sl, .sr], lost.NoCliffEdge drop sensor) ∧
    s.haz.NoDropEdge cliff ∧ s.haz.NoBumpEdge cliff ∧ s.CliffEdge cliff .fl ∧
    s.pose.quality ≠ .lost ∧ s.trv.state ≠ .docked ∧
    pointTile (s.projected .fl).1 (s.projected .fl).2 = some (129, 128) ∧
    ∀ sensor ∈ [Sensor.fr, .sl, .sr], marked.NoCliffEdge cliff sensor := by decide +kernel

/-- Both bumpers close in one frame without another edge: in CRUISE, under a yield, in LIMP, in SEEK and in
SETTLE, and with BUMP_REACT off. -/
theorem witness_BumpEdgesStartABackoff :
    let p := hub 700 [1, 1, 0, 0, 0, 0, 0]
    let f := SenseFields.read p
    p.length = 16 ∧ (f.bumpL = true ∧ f.bumpR = true) ∧ awake.paramNat .bumpReact = 1 ∧
    ∀ s ∈ [cruising [leg 1 .active], yielding, limping, approaching .seek, approaching .settle,
        { limping with params := awake.params.set Param.bumpReact.index 0 }],
      s.phase = .running ∧ s.haz.bumpL = false ∧ s.haz.bumpR = false ∧ s.haz.NoDropEdge f ∧
        ∀ sensor ∈ [Sensor.fl, .fr, .sl, .sr], s.NoCliffEdge f sensor := by decide +kernel

/-- The contact closes in IDLE and opens in DOCKED; neither; a frame taken in APPROACH. Without codes it starts
BEAM_LOST in ALIGN where the timer is stopped, and lets it run on where it runs. -/
theorem witness_DockInputsDockAndSteer :
    let closed := SenseFields.read (hub 700 [0, 0, 0, 0, 4, 4, 1])
    let opened := SenseFields.read (hub 700 [0, 0, 0, 0, 0, 0, 0])
    let docked : State := { inState .docked with dock := { awake.dock with contact := true } }
    (awake.trv.state = .idle ∧ awake.dock.contact = false ∧ closed.contact = true) ∧
    (docked.trv.state = .docked ∧ docked.dock.contact = true ∧ opened.contact = false) ∧
    (awake.trv.state ≠ .approach ∧ opened.contact = false) ∧ (approaching .align).trv.state = .approach ∧
    (let s := approaching .align
     let stopped : State := { s with dock := { s.dock with beamLost := none } }
     let running : State := { s with dock := { s.dock with beamLost := some 7 } }
     (stopped.takeDockInputs opened).dock.beamLost = some 3000 ∧
       (running.takeDockInputs opened).dock.beamLost = some 7) := by decide +kernel

/-- STOP; LIMP with a grace; a running grace timer. -/
theorem witness_CadenceAndGraceExpire :
    (let s := cruising [leg 1 .active]
     s.phase = .running ∧ s.seg.cadence.isSome = true ∧
       ¬(s.paramNat .cadencePolicy = 1 ∧ 0 < s.paramNat .limpGrace)) ∧
    (let s := { cruising [leg 1 .active] with params := awake.params.set Param.cadencePolicy.index 1 }
     s.phase = .running ∧ s.seg.cadence.isSome = true ∧ s.trv.state = .cruise ∧ s.trv.yield = false ∧
       s.dock.sub = .none_ ∧ s.dock.approach = none ∧ s.dock.beamLost = none ∧ s.dock.settle = none ∧
       s.trv.backoff = none ∧ s.paramNat .cadencePolicy = 1 ∧ 0 < s.paramNat .limpGrace) ∧
    (limping.phase = .running ∧ limping.trv.grace.isSome = true) := by decide +kernel

theorem witness_SensorLossHaltsOrIsRecorded :
    ∀ s ∈ [cruising [leg 1 .active], inState .halted, inState .docked],
      s.phase = .running ∧ s.haz.loss.isSome = true := by decide

theorem witness_ApproachTimersExpire :
    ((approaching .seek).phase = .running ∧ (approaching .seek).dock.approach.isSome = true) ∧
    (approaching .creep).dock.beamLost.isSome = true ∧ (approaching .settle).dock.settle.isSome = true := by
  decide

/-- Eleven frames queued, and twelve. -/
theorem witness_TelemetrySendsOrSkips :
    ∀ n : Fin 2,
      let s : State := { awake with port := { awake.port with out := List.replicate (11 + n) ⟨0x82, [1]⟩ } }
      s.phase = .running ∧ s.rep.tele.isSome = true ∧ s.queued = 11 + n := by decide +kernel

end Sys2Proof.Tests
end

-- ==== Proofs: QUERY TILES and QUERY CLASS ====
section
/-! What the port does with a QUERY it serves, how rows of equal length are indexed in a flattened list,
and from them the statements about QUERY TILES (R21) and QUERY CLASS (R22). -/

namespace Sys2Proof.Machine

/-! ## A request that is served (R180) -/

section

variable {s : State} (req : Byte) (act : State → State × Reply)

/-- Cases 4 and 5 of R180. -/
theorem State.takeRequest_refused (hs : s.Serves) {k : NKind} {rest : List Byte} {r : Reply}
    (hp : portRefusal s.trv.state k (req :: rest) = some r) :
    s.takeRequest k (req :: rest) act = s.replied (rest.length + 1) req k r.code r.data := by
  rw [State.takeRequest, State.onRunning_running _ hs.1]
  simp only [State.frameTaken_queued, State.frameTaken_trv, if_neg (Nat.not_le.mpr hs.2), hp]
  rfl

theorem State.takeRequest_handedOn (hs : s.Serves) {k : NKind} {rest : List Byte}
    (hp : portRefusal s.trv.state k (req :: rest) = none) :
    s.takeRequest k (req :: rest) act =
      (s.frameTaken .n (rest.length + 1)).answer k.code req act := by
  rw [State.takeRequest, State.onRunning_running _ hs.1]
  simp only [State.frameTaken_queued, State.frameTaken_trv, if_neg (Nat.not_le.mpr hs.2), hp]
  rfl

/-- An owner that composes `r` and changes nothing, whichever reply waits in the output queue. -/
theorem State.answer_of_reads {kind : Byte} {r : Reply}
    (hact : ∀ f, act (s.pushUp f) = (s.pushUp f, r)) :
    s.answer kind req act = s.pushUp (replyFrame req kind r) := by
  simp only [State.answer, hact]

/-! ## A QUERY that is served (R183) -/

/-- LOCKED refuses no QUERY. -/
theorem portRefusal_query (travel : Travel) (payload : List Byte) :
    portRefusal travel .query payload = lengthRefusal .query payload := by
  rw [portRefusal]
  cases lengthRefusal .query payload <;> simp

/-- A QUERY of a subject of the table is judged by its argument bytes alone. -/
theorem portRefusal_queryPayload (travel : Travel) {subject : Nat} (hsub : subject ≤ 7)
    (args : List Byte) :
    portRefusal travel .query (queryPayload req subject args) =
      if args.length = queryArguments subject then none else some ⟨.length, []⟩ := by
  have hcarry : (carry8 subject).toNat = subject := Nat.mod_eq_of_lt (by omega)
  simp [portRefusal_query, lengthRefusal, queryPayload, hcarry, Nat.not_lt.mpr hsub]

theorem State.takeQuery_wrongLength (hs : s.Serves) {subject : Nat} (hsub : subject ≤ 7)
    {args : List Byte} (hlen : args.length ≠ queryArguments subject) :
    s.takeRequest .query (queryPayload req subject args) act =
      s.replied (args.length + 2) req .query .length [] :=
  State.takeRequest_refused req act hs
    ((portRefusal_queryPayload req s.trv.state hsub args).trans (if_neg hlen))

theorem State.takeQuery_reads (hs : s.Serves) {subject : Nat} (hsub : subject ≤ 7)
    {args : List Byte} (hlen : args.length = queryArguments subject) {r : Reply}
    (hact : ∀ f, let t := (s.frameTaken .n (args.length + 2)).pushUp f; act t = (t, r)) :
    s.takeRequest .query (queryPayload req subject args) act =
      s.replied (args.length + 2) req .query r.code r.data := by
  have hp := (portRefusal_queryPayload req s.trv.state hsub args).trans (if_pos hlen)
  exact (State.takeRequest_handedOn req act hs hp).trans (State.answer_of_reads req act hact)

end

/-! ## Rows of equal length, flattened -/

section

variable {α β : Type} {g : α → List β} {w : Nat}

theorem length_flatMap_rows (hg : ∀ x, (g x).length = w) (l : List α) :
    (l.flatMap g).length = w * l.length := by
  induction l with
  | nil => rfl
  | cons x l ih => rw [List.flatMap_cons, List.length_append, hg, ih, List.length_cons]; ring

/-- Position `i` of row `j`. -/
theorem getElem?_flatMap_rows (hg : ∀ x, (g x).length = w) {i : Nat} (hi : i < w) :
    ∀ (l : List α) (j : Nat), (l.flatMap g)[j * w + i]? = l[j]?.bind fun x => (g x)[i]?
  | [], _ => rfl
  | x :: l, 0 => by
    rw [List.flatMap_cons, List.getElem?_append_left (by rw [hg]; omega)]
    simp
  | x :: l, j + 1 => by
    have hrow : (j + 1) * w + i - (g x).length = j * w + i := by
      rw [hg, Nat.succ_mul]; omega
    rw [List.flatMap_cons, List.getElem?_append_right (by rw [hg, Nat.succ_mul]; omega), hrow,
      getElem?_flatMap_rows hg hi l j]
    rfl

end

/-! ## QUERY TILES (R21) -/

theorem exec_queryTiles (req : Byte) (args : List Byte) (s : State) :
    exec (.queryTiles req args) s =
      .next (s.takeRequest .query (queryPayload req 2 args) (tilesAct (.read args))) := rfl

theorem Rect.refused_iff (r : Rect) :
    r.refused = true ↔ r.tx1 < r.tx0 ∨ r.ty1 < r.ty0 ∨
      190 < (r.tx1 - r.tx0 + 1) * (r.ty1 - r.ty0 + 1) := by
  simp [Rect.refused, or_assoc]

theorem tilesAct_refused {r : Rect} (h : r.refused = true) (s : State) :
    tilesAct r s = (s, queryRange 2) := if_pos h

theorem tilesAct_answered {r : Rect} (h : ¬r.refused = true) (s : State) :
    tilesAct r s = (s, queryOk 2 (r.data ++ s.map.tileBytes r)) := if_neg h

@[simp] theorem carry8_toNat (b : Byte) : carry8 b.toNat = b := BitVec.ofNat_toNat 8 b

theorem Rect.data_read (a b c d : Byte) : (Rect.read [a, b, c, d]).data = [a, b, c, d] := by
  simp [Rect.data, Rect.read, byteAt]

theorem length_span {lo hi : Nat} (h : lo ≤ hi) : (span lo hi).length = hi - lo + 1 := by
  rw [span, List.length_range']; omega

theorem getElem?_span {lo hi i : Nat} (h : lo ≤ hi) (hi' : i < hi - lo + 1) :
    (span lo hi)[i]? = some (lo + i) := by
  rw [span, List.getElem?_range' (by omega), Nat.one_mul]

/-- The tiles of row `ty` of a rectangle, tx ascending. -/
def TileMap.rowBytes (m : TileMap) (r : Rect) (ty : Nat) : List Byte :=
  (span r.tx0 r.tx1).map fun tx => m.tile tx ty

theorem TileMap.tileBytes_eq_rows (m : TileMap) (r : Rect) :
    m.tileBytes r = (span r.ty0 r.ty1).flatMap (m.rowBytes r) := by
  simp only [TileMap.tileBytes, Rect.tiles, List.map_flatMap, List.map_map]
  rfl

section

variable (m : TileMap) {r : Rect} (hx : r.tx0 ≤ r.tx1)
include hx

theorem TileMap.length_rowBytes (ty : Nat) : (m.rowBytes r ty).length = r.tx1 - r.tx0 + 1 := by
  rw [TileMap.rowBytes, List.length_map, length_span hx]

variable (hy : r.ty0 ≤ r.ty1)
include hy

theorem TileMap.length_tileBytes :
    (m.tileBytes r).length = (r.tx1 - r.tx0 + 1) * (r.ty1 - r.ty0 + 1) := by
  rw [m.tileBytes_eq_rows, length_flatMap_rows (m.length_rowBytes hx), length_span hy]

theorem TileMap.getElem?_tileBytes {i j : Nat} (hi : i < r.tx1 - r.tx0 + 1)
    (hj : j < r.ty1 - r.ty0 + 1) :
    (m.tileBytes r)[j * (r.tx1 - r.tx0 + 1) + i]? = some (m.tile (r.tx0 + i) (r.ty0 + j)) := by
  rw [m.tileBytes_eq_rows, getElem?_flatMap_rows (m.length_rowBytes hx) hi, getElem?_span hy hj]
  simp [TileMap.rowBytes, getElem?_span hx hi]

end

theorem exec_queryTiles_served {s : State} (hs : s.Serves) (req a b c d : Byte) :
    let r := Rect.read [a, b, c, d]
    exec (.queryTiles req [a, b, c, d]) s = .next (
      if r.refused then s.replied 6 req .query .range [2]
      else s.replied 6 req .query .ok ([2, a, b, c, d] ++ s.map.tileBytes r)) := by
  intro r
  have hreads (reply : Reply) := State.takeQuery_reads req (tilesAct r) hs (subject := 2) (by decide)
    (args := [a, b, c, d]) rfl (r := reply)
  rw [exec_queryTiles]
  split
  case isTrue hbad =>
    rw [hreads (queryRange 2) fun _ => tilesAct_refused hbad _]
    rfl
  case isFalse hgood =>
    rw [hreads (queryOk 2 (r.data ++ s.map.tileBytes r)) fun _ => tilesAct_answered hgood _,
      Rect.data_read]
    rfl

/-- Settles O42: the port hands the request to the Tile Map in every travel state, and the bytes of the
answer are the rectangle's rows one after the other. -/
theorem queryTilesReadsTheMap : Obligations.QueryTilesReadsTheMap := by
  unfold Obligations.QueryTilesReadsTheMap
  intro s req a b c d hs tx0 ty0 w h
  have hrefused : (Rect.read [a, b, c, d]).refused = true ↔
      c.toNat < tx0 ∨ d.toNat < ty0 ∨ 190 < w * h := Rect.refused_iff _
  rw [exec_queryTiles_served hs]
  split
  case isTrue hbad => rw [if_pos (hrefused.mpr hbad)]
  case isFalse hgood =>
    have hx : tx0 ≤ c.toNat := by omega
    have hy : ty0 ≤ d.toNat := by omega
    rw [if_neg (mt hrefused.mp hgood)]
    exact ⟨_, rfl, s.map.length_tileBytes hx hy,
      fun _ _ hi hj => s.map.getElem?_tileBytes hx hy hi hj⟩

/-! ## QUERY CLASS (R22) -/

theorem exec_queryClass (req : Byte) (args : List Byte) (s : State) :
    exec (.queryClass req args) s =
      .next (s.takeRequest .query (queryPayload req 3 args) classesAct) := rfl

theorem ClassRecord.length_data (r : ClassRecord) : r.data.length = 7 := rfl

/-- The content of a QUERY CLASS answer (R188). -/
def TileMap.classData (m : TileMap) : List Byte := m.classes.toList.flatMap ClassRecord.data

theorem TileMap.length_classData (m : TileMap) : m.classData.length = 112 := by
  rw [TileMap.classData, length_flatMap_rows ClassRecord.length_data, Vector.length_toList]

/-- The first byte of each record says whether its class blocks. -/
theorem TileMap.getElem?_classData_blocks (m : TileMap) (c : ClassNo) :
    m.classData[c.val * 7]? = some (carryFlag (m.record c).blocks) := by
  have hrecord : m.classes.toList[c.val]? = some (m.record c) := by simp [TileMap.record]
  calc m.classData[c.val * 7 + 0]?
    _ = m.classes.toList[c.val]?.bind fun r => r.data[0]? :=
      getElem?_flatMap_rows ClassRecord.length_data (by decide) _ _
    _ = some (carryFlag (m.record c).blocks) := by rw [hrecord]; rfl

theorem exec_queryClass_served {s : State} (hs : s.Serves) (req : Byte) (args : List Byte) :
    exec (.queryClass req args) s = .next (
      if args = [] then s.replied 2 req .query .ok (3 :: s.map.classData)
      else s.replied (args.length + 2) req .query .length []) := by
  rw [exec_queryClass]
  split
  case isTrue hnil =>
    subst hnil
    rw [State.takeQuery_reads req classesAct hs (by decide) rfl (r := queryOk 3 s.map.classData)
      fun _ => rfl]
    rfl
  case isFalse hcons =>
    rw [State.takeQuery_wrongLength req classesAct hs (by decide) (mt List.length_eq_zero_iff.mp hcons)]

/-- Settles O43: sixteen records of seven bytes, those of CLIFF and DOCK at 7 × 6 and 7 × 8. -/
theorem queryClassReadsTheTable : Obligations.QueryClassReadsTheTable := by
  unfold Obligations.QueryClassReadsTheTable
  intro s req args hs hclasses
  obtain ⟨-, hcliff, hdock⟩ := hclasses
  have hblocks {c : ClassNo} (h : (s.map.record c).blocks = true) :
      s.map.classData[c.val * 7]? = some 1 := by
    rw [s.map.getElem?_classData_blocks, h]; rfl
  exact ⟨exec_queryClass_served hs req args, s.map.length_classData, hblocks hcliff, hblocks hdock⟩

end Sys2Proof.Machine
end

-- ==== Proofs: the law speed ====
section
/-! The part's integer square root is the library's, what the law speed is and how far it goes, and from them the
statement about the stopping law (R80). -/

namespace Sys2Proof.Machine

/-! ## The integer square root (00 "Arithmetic") -/

/-- The bits still to be found place the root in an interval that each of them halves. -/
theorem isqrtFrom_eq_sqrt {n : Nat} : ∀ {k r : Nat}, r ≤ n.sqrt → n.sqrt < r + 2 ^ k →
    isqrtFrom n k r = n.sqrt
  | 0, r, hle, hlt => by
    rw [isqrtFrom]; omega
  | k + 1, r, hle, hlt => by
    have hhalves : 2 ^ (k + 1) = 2 ^ k + 2 ^ k := Nat.two_pow_succ k
    rw [isqrtFrom]
    split
    case isTrue hsq => exact isqrtFrom_eq_sqrt (Nat.le_sqrt.mpr hsq) (by omega)
    case isFalse hsq => exact isqrtFrom_eq_sqrt hle (Nat.not_le.mp (mt Nat.le_sqrt.mp hsq))

/-- The root has at most half the bits of its argument, so the search begins high enough. -/
theorem sqrt_lt_two_pow_half_log2 (n : Nat) : n.sqrt < 2 ^ (n.log2 / 2 + 1) := by
  rw [Nat.sqrt_lt, ← Nat.pow_add]
  calc n
    _ < 2 ^ (n.log2 + 1) := Nat.lt_log2_self
    _ ≤ 2 ^ (n.log2 / 2 + 1 + (n.log2 / 2 + 1)) := Nat.pow_le_pow_right (by decide) (by omega)

theorem isqrt_eq_sqrt (n : Nat) : isqrt n = n.sqrt :=
  isqrtFrom_eq_sqrt (Nat.zero_le _) (by simpa using sqrt_lt_two_pow_half_log2 n)

/-! ## The law speed (R80) -/

section

variable {decel margin d : Int}

theorem lawSpeed_of_le (h : d ≤ margin) : lawSpeed decel margin d = 0 := if_pos h

theorem lawSpeed_of_lt (h : margin < d) :
    lawSpeed decel margin d = (2 * decel * (d - margin)).toNat.sqrt := by
  rw [lawSpeed, if_neg (Int.not_le.mpr h), isqrt_eq_sqrt]

theorem lawSpeed_nonneg : 0 ≤ lawSpeed decel margin d := by
  rcases le_or_gt d margin with h | h
  · rw [lawSpeed_of_le h]
  · rw [lawSpeed_of_lt h]; omega

section

variable (hdecel : 0 ≤ decel) (h : margin < d)
include hdecel h

/-- The stopping law's argument is no negative number, so carrying it as a natural loses nothing. -/
theorem toNat_stoppingLaw :
    ((2 * decel * (d - margin)).toNat : Int) = 2 * decel * (d - margin) :=
  Int.toNat_of_nonneg (mul_nonneg (by omega) (by omega))

theorem lawSpeed_sq_le :
    lawSpeed decel margin d * lawSpeed decel margin d ≤ 2 * decel * (d - margin) := by
  rw [lawSpeed_of_lt h, ← toNat_stoppingLaw hdecel h]
  exact_mod_cast Nat.sqrt_le _

theorem lt_succ_lawSpeed_sq :
    2 * decel * (d - margin) < (lawSpeed decel margin d + 1) * (lawSpeed decel margin d + 1) := by
  rw [lawSpeed_of_lt h, ← toNat_stoppingLaw hdecel h]
  exact_mod_cast Nat.lt_succ_sqrt _

end

/-- At the ends of DECEL and MARGIN and the probe's full reach the argument is 5,040,000, below the square
of 2,245. -/
theorem lawSpeed_le_top (hdecel : 0 ≤ decel) (hdecel' : decel ≤ 2000) (hmargin : 20 ≤ margin)
    (hd : d ≤ 1280) : lawSpeed decel margin d ≤ 2244 := by
  rcases le_or_gt d margin with h | h
  · rw [lawSpeed_of_le h]; decide
  · have hargument : 2 * decel * (d - margin) ≤ 2 * 2000 * (1280 - 20) :=
      mul_le_mul (by omega) (by omega) (by omega) (by decide)
    have hsq := lawSpeed_sq_le hdecel h
    by_contra habove
    have := mul_self_le_mul_self (a := (2245 : Int)) (by decide) (Int.not_le.mp habove)
    omega

end

/-! ## The bound (R82) -/

theorem foldl_min_le_init (l : List Int) (a : Int) : l.foldl min a ≤ a :=
  List.foldlRecOn l min (motive := (· ≤ a)) le_rfl fun _ hb _ _ => (min_le_left _ _).trans hb

theorem State.bound_le_lawSpeed (s : State) (r : Rays) (u d : Int) :
    s.bound r u d ≤ lawSpeed (s.param .decel) (s.param .margin) d := foldl_min_le_init _ _

/-- A computation that has a direction. -/
theorem State.compute_bound (s : State) {goal : Target} {u : Int}
    (hu : ramp (rampStep (s.param .accel)) (rampStep (s.param .decel)) s.env.p goal.v = u) (hne : u ≠ 0) :
    (s.compute goal).bound =
      s.bound (s.rays (probeHeading s.pose.h u)) u (s.compute goal).d := by
  subst hu
  simp only [State.compute, if_neg hne]

/-- Settles O52: the square root is the library's, and the law speed is the term from which the bound's
minimum begins. -/
theorem lawSpeedIsTheStoppingLaw : Obligations.LawSpeedIsTheStoppingLaw := by
  unfold Obligations.LawSpeedIsTheStoppingLaw
  refine ⟨?_, by decide, by decide, ?_⟩
  · intro decel margin d hlow hdecel' hmargin _ hd
    have hdecel : 0 ≤ decel := by omega
    exact ⟨lawSpeed_of_le,
      fun h => ⟨lawSpeed_nonneg, lawSpeed_sq_le hdecel h, lt_succ_lawSpeed_sq hdecel h⟩,
      lawSpeed_le_top hdecel hdecel' hmargin hd⟩
  · intro s goal hne
    rw [s.compute_bound rfl hne]
    exact s.bound_le_lawSpeed _ _ _

end Sys2Proof.Machine
end

-- ==== Proofs: ACK ====
section
/-! What a request handed to its owner becomes, whatever the owner changes, which latch sets an ACK may name, and
from them the statement about ACK (R169). -/

namespace Sys2Proof.Machine

/-! ## A request that is handed to its owner (R180) -/

theorem portRefusal_of_unlocked {travel : Travel} (hunlocked : travel ≠ .locked) {k : NKind}
    {payload : List Byte} (hlen : lengthRefusal k payload = none) :
    portRefusal travel k payload = none := by
  rw [portRefusal, hlen]
  exact if_neg fun h => hunlocked h.1

/-- An owner whose reply does not depend on the frame that waits in the output queue. -/
theorem State.answer_of_composes {s : State} {kind req : Byte} {act : State → State × Reply} {r : Reply}
    (hact : ∀ f, (act (s.pushUp f)).2 = r) :
    s.answer kind req act = (act (s.pushUp (replyFrame req kind r))).1 := by
  simp only [State.answer, hact]

/-- The owner acts on the state in which its own reply already waits. -/
theorem State.takeRequest_composes {s : State} (hs : s.Takes) {k : NKind} {req : Byte}
    {rest : List Byte} (hlen : lengthRefusal k (req :: rest) = none)
    {act : State → State × Reply} {r : Reply}
    (hact : ∀ f, (act ((s.frameTaken .n (rest.length + 1)).pushUp f)).2 = r) :
    s.takeRequest k (req :: rest) act = (act (s.replied (rest.length + 1) req k r.code r.data)).1 := by
  obtain ⟨hrunning, hunlocked, hroom⟩ := hs
  rw [State.takeRequest_handedOn req act ⟨hrunning, hroom⟩ (portRefusal_of_unlocked hunlocked hlen)]
  exact State.answer_of_composes hact

/-! ## ACK (R169) -/

theorem exec_ack (req lo hi : Byte) (s : State) :
    exec (.ack [req, lo, hi]) s = .next (s.takeRequest .ack [req, lo, hi] (ackAct (hi ++ lo))) := rfl

/-- The sixteen flags name a position above 11 just where the high byte is 16 or more. -/
theorem shiftRight_twelve_ne_zero_iff (hi lo : Byte) :
    (hi ++ lo : BitVec 16) >>> 12 ≠ 0 ↔ 16 ≤ hi.toNat := by
  have hhigh : ((hi ++ lo : BitVec 16) >>> 12).toNat = hi.toNat / 16 := by
    rw [BitVec.toNat_ushiftRight, BitVec.toNat_append, ← Nat.shiftLeft_add_eq_or_of_lt lo.isLt,
      Nat.shiftLeft_eq, Nat.shiftRight_eq_div_pow]
    have := lo.isLt
    omega
  rw [ne_eq, ← BitVec.toNat_inj, hhigh]
  simp

theorem ackAct_refused {named : BitVec 16} (h : named >>> 12 ≠ 0) (s : State) :
    ackAct named s = (s, ⟨.range, s.latchBytes⟩) := if_pos h

/-- The latches an ACK of the set `named` leaves. -/
def State.latchesLeft (s : State) (named : BitVec 16) : BitVec 12 :=
  s.rep.latches &&& ~~~(named.setWidth 12)

theorem ackAct_cleared {named : BitVec 16} (h : ¬named >>> 12 ≠ 0) (s : State) :
    ackAct named s =
      ({ s with rep := { s.rep with latches := s.latchesLeft named } },
       ⟨.ok, bytes16 ((s.latchesLeft named).setWidth 16)⟩) := if_neg h

/-- Settles O37: the latch set is not touched by the reply that joins the queue, so the two passes of the
owner find and leave the same latches. -/
theorem ackClearsExactlyTheNamedLatches : Obligations.AckClearsExactlyTheNamedLatches := by
  unfold Obligations.AckClearsExactlyTheNamedLatches
  intro s req lo hi hs left
  have htaken {r : Reply} := State.takeRequest_composes hs (k := .ack) (req := req) (rest := [lo, hi])
    rfl (act := ackAct (hi ++ lo)) (r := r)
  rw [exec_ack]
  split
  case isTrue habove =>
    have hrefused := ackAct_refused ((shiftRight_twelve_ne_zero_iff hi lo).mpr habove)
    rw [htaken (r := ⟨.range, s.latchBytes⟩) fun _ => congrArg Prod.snd (hrefused _), hrefused]
    rfl
  case isFalse hbelow =>
    have hcleared := ackAct_cleared (mt (shiftRight_twelve_ne_zero_iff hi lo).mp hbelow)
    rw [htaken (r := ⟨.ok, bytes16 (left.setWidth 16)⟩) fun _ => congrArg Prod.snd (hcleared _),
      hcleared]
    rfl

end Sys2Proof.Machine
end

-- ==== Proofs: reports beside the other blocks ====
section
/-! What a raised event makes of the reports hangs on the port, the reports and the pose alone, so it may be taken
before or after a change of the other blocks. -/

namespace Sys2Proof.Machine

/-! ## Two states with equal blocks are equal -/

theorem State.eq_of_blocks {s t : State} (phase : s.phase = t.phase) (port : s.port = t.port)
    (map : s.map = t.map) (pose : s.pose = t.pose) (seg : s.seg = t.seg) (trv : s.trv = t.trv)
    (env : s.env = t.env) (haz : s.haz = t.haz) (drv : s.drv = t.drv) (dock : s.dock = t.dock)
    (store : s.store = t.store) (rep : s.rep = t.rep) (params : s.params = t.params)
    (pending : s.pending = t.pending) : s = t := by
  cases s; cases t; simp_all

/-! ## What a raised event makes of the reports (R165) -/

/-- The port and the reports after an event raised over the port, the reports and the pose given. -/
def reportsAfter (e : Event) (port : LinkPorts) (rep : ReportUnit) (pose : PoseUnit) :
    LinkPorts × ReportUnit :=
  let t := State.raise e { State.reset with port := port, rep := rep, pose := pose }
  (t.port, t.rep)

/-- The same for several events in order. -/
def reportsAfterAll : List Event → LinkPorts → ReportUnit → PoseUnit → LinkPorts × ReportUnit
  | [], port, rep, _ => (port, rep)
  | e :: es, port, rep, pose =>
    reportsAfterAll es (reportsAfter e port rep pose).1 (reportsAfter e port rep pose).2 pose

theorem State.raise_eq (e : Event) (s : State) :
    s.raise e = { s with
      port := (reportsAfter e s.port s.rep s.pose).1
      rep := (reportsAfter e s.port s.rep s.pose).2 } := by
  have hbase := State.raise_cases e { State.reset with port := s.port, rep := s.rep, pose := s.pose }
  rcases s.raise_cases e with ⟨hoff, h⟩ | ⟨hon, hm, hh, hq, h⟩ | ⟨hon, hroom, h⟩
  · rcases hbase with ⟨-, k⟩ | ⟨hon, -⟩ | ⟨hon, -⟩
    · rw [reportsAfter, h, k]
    · exact absurd (hoff.symm.trans hon) (by decide)
    · exact absurd (hoff.symm.trans hon) (by decide)
  · rcases hbase with ⟨hoff, -⟩ | ⟨-, -, -, -, k⟩ | ⟨-, hfull, -⟩
    · exact absurd (hoff.symm.trans hon) (by decide)
    · rw [reportsAfter, h, k]; rfl
    · exact absurd ⟨hm, hh, hq⟩ hfull
  · rcases hbase with ⟨hoff, -⟩ | ⟨-, hm, hh, hq, -⟩ | ⟨-, -, k⟩
    · exact absurd (hoff.symm.trans hon) (by decide)
    · exact absurd ⟨hm, hh, hq⟩ hroom
    · rw [reportsAfter, h, k]; rfl

theorem State.raiseAll_eq (es : List Event) : ∀ s : State, s.raiseAll es = { s with
    port := (reportsAfterAll es s.port s.rep s.pose).1
    rep := (reportsAfterAll es s.port s.rep s.pose).2 } := by
  induction es with
  | nil => exact fun s => rfl
  | cons e es ih =>
    intro s
    rw [State.raiseAll_cons, ih, State.raise_eq]
    rfl

/-! ## Raising before and after a change of the travel state and what runs with it -/

section

variable (e : Event) (es : List Event) (s : State)

theorem State.raise_enter (u : Travel) : (s.raise e).enter u = (s.enter u).raise e := by
  rw [State.raise_eq, State.raise_eq]; rfl

theorem State.raiseAll_enter (u : Travel) : (s.raiseAll es).enter u = (s.enter u).raiseAll es := by
  rw [State.raiseAll_eq, State.raiseAll_eq]; rfl

/-- The blocks a raised event neither reads nor writes, replaced. -/
def State.withMotion (seg : SegmentQueue) (trv : TravelController) (dock : DockUnit) (drv : DriveExchange)
    (s : State) : State := { s with seg := seg, trv := trv, dock := dock, drv := drv }

theorem State.raise_withMotion (seg : SegmentQueue) (trv : TravelController) (dock : DockUnit)
    (drv : DriveExchange) :
    (s.raise e).withMotion seg trv dock drv = (s.withMotion seg trv dock drv).raise e := by
  rw [State.raise_eq, State.raise_eq]; rfl

theorem State.raiseAll_withMotion (seg : SegmentQueue) (trv : TravelController) (dock : DockUnit)
    (drv : DriveExchange) :
    (s.raiseAll es).withMotion seg trv dock drv = (s.withMotion seg trv dock drv).raiseAll es := by
  rw [State.raiseAll_eq, State.raiseAll_eq]; rfl

end

end Sys2Proof.Machine
end

-- ==== Proofs: what every event keeps ====
section
/-! Every invariant of the part, and every promise over all commands, in one relation between the state before and
after an event of a running part: it is reflexive and transitive, and a change of one block keeps it where that
block's own rule is kept. -/

namespace Sys2Proof.Machine

/-! ## The relation -/

/-- A QUERY COUNTERS with clear, whichever row carries it (R174). -/
def ClearsCounters (c : Instr) : Prop :=
  ∃ req, c = .queryCounters req [1] ∨ c = .unknownKind NKind.query.code [req, 7, 1] ∨
    c = .wrongKindFrame .n NKind.query.code [req, 7, 1]

/-- A tile request with override set, whichever row carries it (R10). -/
def OverridesTiles (c : Instr) : Prop :=
  (∃ p, c = .tileFill p ∧ byteAt p 6 = 1) ∨ (∃ p, c = .tileRun p ∧ byteAt p 3 = 1) ∨
  ∃ k p, (c = .unknownKind k p ∨ c = .wrongKindFrame .n k p) ∧
    (k = NKind.tileFill.code ∧ byteAt p 6 = 1 ∨ k = NKind.tileRun.code ∧ byteAt p 3 = 1)

/-- A tile the part has marked in `m` is marked in `n`, with no smaller count (R10, R11). -/
def TileMap.GuardedBy (m n : TileMap) : Prop :=
  ∀ tx ty, tx < 256 → ty < 256 → tileObserved (m.tile tx ty) = true →
    tileObserved (n.tile tx ty) = true ∧ tileCount (m.tile tx ty) ≤ tileCount (n.tile tx ty)

theorem TileMap.GuardedBy.refl (m : TileMap) : m.GuardedBy m := fun _ _ _ _ h => ⟨h, le_rfl⟩

theorem TileMap.GuardedBy.trans {l m n : TileMap} (h : l.GuardedBy m) (k : m.GuardedBy n) : l.GuardedBy n := by
  intro tx ty hx hy ho
  obtain ⟨hm, hle⟩ := h tx ty hx hy ho
  obtain ⟨hn, hle'⟩ := k tx ty hx hy hm
  exact ⟨hn, hle.trans hle'⟩

/-- The motor power is cut in these travel states (R127). -/
abbrev Travel.PowerCut (u : Travel) : Prop := u = .fault ∨ u = .locked

/-- What an event of a running part keeps. -/
structure Keeps (c : Instr) (s t : State) : Prop where
  phase : t.phase = s.phase
  pending : t.pending = s.pending
  memory : s.MemoryOk → t.MemoryOk
  tables : s.TablesOk → t.TablesOk
  motion : s.MotionOk → t.MotionOk
  pose : s.TablesOk → s.MotionOk → s.PoseOk ∧ s.EnvelopeOk → t.PoseOk ∧ t.EnvelopeOk
  gates : s.GatesOk → t.GatesOk
  drive : s.phase = .running → s.MotionOk → s.DriveOk → t.DriveOk
  store : s.StoreOk → t.StoreOk
  reports : s.TablesOk → s.ReportsOk → t.ReportsOk
  locked : s.phase = .running → s.MotionOk → s.DriveOk → s.trv.state = .locked →
    t.trv.state = .locked ∧ t.pose = { s.pose with quality := t.pose.quality } ∧ t.port.dTx = s.port.dTx
  counters : ¬ClearsCounters c → ∀ i : Fin 12, min s.rep.counters[i] 65535 ≤ t.rep.counters[i]
  tiles : ¬OverridesTiles c → s.MemoryOk → s.map.GuardedBy t.map

section

variable {c : Instr} {s t u : State}

theorem Keeps.refl (c : Instr) (s : State) : Keeps c s s where
  phase := rfl
  pending := rfl
  memory := id
  tables := id
  motion := id
  pose := fun _ _ => id
  gates := id
  drive := fun _ _ => id
  store := id
  reports := fun _ => id
  locked := fun _ _ _ h => ⟨h, rfl, rfl⟩
  counters := fun _ _ => Nat.min_le_left _ _
  tiles := fun _ _ => .refl _

theorem Keeps.trans (h : Keeps c s t) (k : Keeps c t u) : Keeps c s u where
  phase := k.phase.trans h.phase
  pending := k.pending.trans h.pending
  memory := k.memory ∘ h.memory
  tables := k.tables ∘ h.tables
  motion := k.motion ∘ h.motion
  pose := fun ht hm hp => k.pose (h.tables ht) (h.motion hm) (h.pose ht hm hp)
  gates := k.gates ∘ h.gates
  drive := fun hr hm hd => k.drive (h.phase.trans hr) (h.motion hm) (h.drive hr hm hd)
  store := k.store ∘ h.store
  reports := fun ht hr => k.reports (h.tables ht) (h.reports ht hr)
  locked := by
    intro hr hm hd hl
    obtain ⟨hl', hpose, htx⟩ := h.locked hr hm hd hl
    obtain ⟨hl'', hpose', htx'⟩ := k.locked (h.phase.trans hr) (h.motion hm) (h.drive hr hm hd) hl'
    exact ⟨hl'', by rw [hpose', hpose], htx'.trans htx⟩
  counters := by
    intro hc i
    have h1 := h.counters hc i
    have h2 := k.counters hc i
    omega
  tiles := fun hc hm => (h.tiles hc hm).trans (k.tiles hc (h.memory hm))

/-! ## A change of one block -/

theorem Keeps.of_port (p : LinkPorts) (hout : p.out = s.port.out)
    (htx : s.DriveOk → s.trv.state = .locked → p.dTx = s.port.dTx) : Keeps c s { s with port := p } where
  __ := Keeps.refl c s
  reports := by
    intro _ hr
    simpa only [State.ReportsOk, hout] using hr
  locked := fun _ _ hd h => ⟨h, rfl, htx hd h⟩

theorem Keeps.of_map (m : TileMap) (hmem : s.map.Ok → m.Ok)
    (hcls : s.map.ClassesOk → m.ClassesOk) (htiles : ¬OverridesTiles c → s.map.Ok → s.map.GuardedBy m) :
    Keeps c s { s with map := m } where
  __ := Keeps.refl c s
  memory := fun ⟨hm, hrest⟩ => ⟨hmem hm, hrest⟩
  tables := fun ⟨hp, hc, hb⟩ => ⟨hp, hcls hc, hb⟩
  tiles := fun ho hm => htiles ho hm.1

theorem Keeps.of_pose (p : PoseUnit) (hp : s.ParamsOk → s.PoseOk → ({ s with pose := p } : State).PoseOk)
    (hlocked : s.DriveOk → s.trv.state = .locked → p = { s.pose with quality := p.quality }) :
    Keeps c s { s with pose := p } where
  __ := Keeps.refl c s
  pose := fun ht _ ⟨h, he⟩ => ⟨hp ht.1 h, he⟩
  locked := fun _ _ hd h => ⟨h, hlocked hd h, rfl⟩

theorem Keeps.of_env (e : EnvelopeRecord)
    (he : s.TablesOk → s.MotionOk → s.EnvelopeOk → ({ s with env := e } : State).EnvelopeOk) :
    Keeps c s { s with env := e } where
  __ := Keeps.refl c s
  pose := fun ht hm ⟨h, h'⟩ => ⟨h, he ht hm h'⟩

theorem Keeps.of_haz (z : HazardUnit) (hz : s.GatesOk → ({ s with haz := z } : State).GatesOk) :
    Keeps c s { s with haz := z } where
  __ := Keeps.refl c s
  gates := hz

theorem Keeps.of_motion (seg : SegmentQueue) (trv : TravelController) (dock : DockUnit) (drv : DriveExchange)
    (hbeacon : dock.beacon = s.dock.beacon)
    (hmotion : s.MotionOk → (s.withMotion seg trv dock drv).MotionOk)
    (hdrive : s.phase = .running → s.MotionOk → s.DriveOk → (s.withMotion seg trv dock drv).DriveOk)
    (hlocked : s.phase = .running → s.MotionOk → s.DriveOk → s.trv.state = .locked → trv.state = .locked) :
    Keeps c s (s.withMotion seg trv dock drv) where
  __ := Keeps.refl c s
  tables := fun ⟨hp, hc, hb⟩ => ⟨hp, hc, by
    simpa only [DockUnit.BeaconOk, State.withMotion, hbeacon] using hb⟩
  motion := hmotion
  drive := hdrive
  locked := fun hr hm hd hl => ⟨hlocked hr hm hd hl, rfl, rfl⟩

theorem Keeps.of_beacon (b : Vector BeaconEntry 25)
    (hb : s.dock.BeaconOk → ({ s.dock with beacon := b } : DockUnit).BeaconOk) :
    Keeps c s { s with dock := { s.dock with beacon := b } } where
  __ := Keeps.refl c s
  tables := fun ⟨hp, hc, h⟩ => ⟨hp, hc, hb h⟩

/-- The store, and the dirty flags its save clears. -/
theorem Keeps.of_store (st : MapStore) (d : Vector Bool 256)
    (hmem : s.MemoryOk → st.medium.Ok ∧ ∀ x ∈ st.current, x.buffer.Within 256)
    (hst : s.StoreOk → ({ s with store := st } : State).StoreOk) :
    Keeps c s { s with store := st, map := { s.map with dirty := d } } where
  __ := Keeps.refl c s
  memory := fun h => ⟨h.1, hmem h⟩
  tables := fun ⟨hp, hc, hb⟩ => ⟨hp, hc, hb⟩
  store := hst
  tiles := fun _ _ => TileMap.GuardedBy.refl _

theorem Keeps.of_rep (r : ReportUnit) (hr : s.TablesOk → s.ReportsOk → ({ s with rep := r } : State).ReportsOk)
    (hc : ¬ClearsCounters c → ∀ i : Fin 12, min s.rep.counters[i] 65535 ≤ r.counters[i]) :
    Keeps c s { s with rep := r } where
  __ := Keeps.refl c s
  reports := hr
  counters := hc

theorem Keeps.of_reports (h : OnlyReports s t) (hr : s.ReportsOk → t.ReportsOk) : Keeps c s t := by
  have k : ∀ (out : List Frame) (held : Vector (Option Held) 8),
      (s.ReportsOk → ({ s with
        port := { s.port with out := out }, rep := { s.rep with held := held } } : State).ReportsOk) →
      Keeps c s { s with port := { s.port with out := out }, rep := { s.rep with held := held } } :=
    fun out held hk =>
      { Keeps.refl c s with reports := fun _ => hk }
  have hk := k t.port.out t.rep.held
  rw [← h] at hk
  exact hk hr

end

end Sys2Proof.Machine
end

-- ==== Proofs: the reports keep their bounds ====
section
/-! Frames that join the output queue, events, releases, counters and latches keep the bounds of the reports (R163,
R165, R166, R174, R181). -/

namespace Sys2Proof.Machine

section

variable {c : Instr} {s : State}

/-! ## Frames that join the output queue (R181) -/

theorem State.pushUp_reportsOk {f : Frame} (hroom : s.queued < 16) (h : s.ReportsOk) :
    (s.pushUp f).ReportsOk := by
  obtain ⟨hlen, hoff, hcount, hfull, hrest⟩ := h
  refine ⟨by simpa [State.queued] using hroom, hoff, hcount, fun k hmask hheld => ?_, hrest⟩
  exact absurd (hfull k hmask hheld) (Nat.ne_of_lt hroom)

theorem Keeps.pushUp (f : Frame) (hroom : s.queued < 16) : Keeps c s (s.pushUp f) :=
  Keeps.of_reports rfl (State.pushUp_reportsOk hroom)

/-! ## Events (R165) -/

theorem holdNote_count (n : Note) {old : Option Held} (h : ∀ r ∈ old, 1 ≤ r.count ∧ r.count ≤ 255) :
    1 ≤ (holdNote n old).count ∧ (holdNote n old).count ≤ 255 := by
  cases old with
  | none => simp [holdNote]
  | some r =>
    have := h r rfl
    simp only [holdNote, saturate]
    omega

theorem State.raise_reportsOk (e : Event) (h : s.ReportsOk) : (s.raise e).ReportsOk := by
  rcases s.raise_cases e with ⟨-, he⟩ | ⟨-, -, -, hroom, he⟩ | ⟨hon, hfull', he⟩ <;> rw [he]
  · exact h
  · exact State.pushUp_reportsOk hroom h
  · obtain ⟨hlen, hoff, hcount, hfull, hrest⟩ := h
    refine ⟨hlen, fun hoff' => absurd (hon.symm.trans hoff') (by decide), fun k r hr => ?_,
      fun k hmask hheld => ?_, hrest⟩
    · by_cases hk : k = e.cls.number
      · subst hk
        obtain rfl : holdNote _ _ = r := by simpa using hr
        exact holdNote_count _ (hcount e.cls.number)
      · have hk' : (e.cls.number : Nat) ≠ (k : Nat) := fun h => hk (Fin.ext h.symm)
        exact hcount k r (by simpa [Vector.getElem_set_ne _ _ hk'] using hr)
    · by_cases hk : k = e.cls.number
      · subst hk
        by_cases hold : s.rep.held[e.cls.number] = none
        · have hq : ¬s.queued < 16 := fun hq => hfull' ⟨hmask, hold, hq⟩
          exact Nat.le_antisymm hlen (Nat.not_lt.mp hq)
        · exact hfull _ hmask hold
      · have hk' : (e.cls.number : Nat) ≠ (k : Nat) := fun h => hk (Fin.ext h.symm)
        exact hfull k hmask (by simpa [Vector.getElem_set_ne _ _ hk'] using hheld)

theorem Keeps.raise (e : Event) (s : State) : Keeps c s (s.raise e) :=
  Keeps.of_reports (s.raise_onlyReports e) (State.raise_reportsOk e)

theorem Keeps.raiseAll (es : List Event) : ∀ s : State, Keeps c s (s.raiseAll es) := by
  induction es with
  | nil => exact Keeps.refl c
  | cons e es ih => exact fun s => (Keeps.raise e s).trans (ih _)

theorem Keeps.raiseDockFailed (before : State) (reason : DockFailure) (s : State) :
    Keeps c s (s.raiseDockFailed before reason) := by
  rw [State.raiseDockFailed]
  split
  · exact Keeps.raise _ _
  · exact Keeps.refl c s

/-! ## Releases (R166) -/

/-- A class is not kept waiting while there is room (R166). -/
def State.Served (s : State) (k : Fin 8) : Prop :=
  s.rep.masks[k] = false → s.rep.held[k] ≠ none → 16 ≤ s.queued

/-- The bounds of the reports but for classes that wait (R163, R181). -/
def State.ReportsBounded (s : State) : Prop :=
  s.port.out.length ≤ 16 ∧ (s.rep.enable = false → ∀ c : Fin 8, s.rep.held[c] = none) ∧
  (∀ c : Fin 8, ∀ r ∈ s.rep.held[c], 1 ≤ r.count ∧ r.count ≤ 255) ∧
  (∀ n ∈ s.rep.counters.toList, n ≤ 65535) ∧ s.rep.fwd ≤ 49 ∧ s.rep.timebase < 2 ^ 32

theorem State.reportsOk_iff : s.ReportsOk ↔ s.ReportsBounded ∧ ∀ k, s.Served k := by
  constructor
  · rintro ⟨hlen, hoff, hcount, hfull, hrest⟩
    exact ⟨⟨hlen, hoff, hcount, hrest⟩, fun k hm hh => (hfull k hm hh).ge⟩
  · rintro ⟨⟨hlen, hoff, hcount, hrest⟩, hserved⟩
    exact ⟨hlen, hoff, hcount, fun k hm hh => Nat.le_antisymm hlen (hserved k hm hh), hrest⟩

theorem State.releaseClass_bounded (k : ReportClass) (h : s.ReportsBounded) :
    (s.releaseClass k).ReportsBounded := by
  rcases s.releaseClass_cases k with he | ⟨r, -, -, hroom, he⟩ <;> rw [he]
  · exact h
  · obtain ⟨-, hoff, hcount, hrest⟩ := h
    refine ⟨by simpa [State.queued] using hroom, fun ho j => ?_, fun j r' hr' => ?_, hrest⟩
    · by_cases hj : (k.number : Nat) = j
      · simp [hj]
      · simpa [Vector.getElem_set_ne _ _ hj] using hoff ho j
    · by_cases hj : (k.number : Nat) = j
      · simp [hj] at hr'
      · exact hcount j r' (by simpa [Vector.getElem_set_ne _ _ hj] using hr')

theorem State.releaseClass_served_same (s : State) (k : ReportClass) :
    (s.releaseClass k).Served k.number := by
  rw [State.releaseClass]
  dsimp only
  split
  next hnone => exact fun _ hh => absurd hnone hh
  next r hr =>
    split
    next => exact fun _ hh => absurd (by simp) hh
    next hno => exact fun hm _ => Nat.not_lt.mp fun hq => hno ⟨hm, hq⟩

theorem State.releaseClass_served_other (k : ReportClass) {j : Fin 8} (h : s.Served j) :
    (s.releaseClass k).Served j := by
  rcases s.releaseClass_cases k with he | ⟨r, -, -, hroom, he⟩ <;> rw [he]
  · exact h
  · intro hm hh
    by_cases hj : (k.number : Nat) = j
    · simp [hj] at hh
    · exact absurd (h hm (by simpa [Vector.getElem_set_ne _ _ hj] using hh)) (Nat.not_le.mpr hroom)

theorem State.foldl_releaseClass (ks : List ReportClass) : ∀ s : State, s.ReportsBounded →
    let t := ks.foldl State.releaseClass s
    t.ReportsBounded ∧ (∀ j, s.Served j → t.Served j) ∧ ∀ k ∈ ks, t.Served k.number := by
  induction ks with
  | nil => exact fun s h => ⟨h, fun _ => id, by simp⟩
  | cons k ks ih =>
    intro s h
    obtain ⟨hb, hkept, hserved⟩ := ih (s.releaseClass k) (State.releaseClass_bounded k h)
    refine ⟨hb, fun j hj => hkept j (State.releaseClass_served_other k hj), fun k' hk' => ?_⟩
    rcases List.mem_cons.mp hk' with rfl | hk'
    · exact hkept _ (s.releaseClass_served_same _)
    · exact hserved k' hk'

theorem ReportClass.exists_number (k : Fin 8) : ∃ cls ∈ ReportClass.all, cls.number = k := by
  revert k; decide

/-- Once the pending records are released, none waits while there is room. -/
theorem State.release_reportsOk (h : s.ReportsBounded) : s.release.ReportsOk := by
  obtain ⟨hb, -, hserved⟩ := State.foldl_releaseClass ReportClass.all s h
  refine State.reportsOk_iff.mpr ⟨hb, fun k => ?_⟩
  obtain ⟨cls, hcls, rfl⟩ := ReportClass.exists_number k
  exact hserved cls hcls

/-! ## Counters and latches (R168, R174) -/

theorem State.count_getElem (k : Counter) (n : Nat) (s : State) (i : Fin 12) :
    (s.count k n).rep.counters[i] =
      if k.position = i then min (s.rep.counters[i] + n) 65535 else s.rep.counters[i] := by
  split
  next h => subst h; simp [saturate]
  next h => exact Vector.getElem_set_ne (k.position.isLt) i.isLt fun h' => h (Fin.ext h')

theorem Keeps.count (k : Counter) (n : Nat) (s : State) : Keeps c s (s.count k n) := by
  refine Keeps.of_rep _ (fun _ h => ?_) fun _ i => ?_
  · obtain ⟨hlen, hoff, hcount, hfull, hctr, hrest⟩ := h
    refine ⟨hlen, hoff, hcount, hfull, fun m hm => ?_, hrest⟩
    obtain ⟨i, hi, rfl⟩ := List.mem_iff_getElem.mp hm
    have hi' : i < 12 := by simpa using hi
    have hle : s.rep.counters[i] ≤ 65535 := hctr _ (by simp)
    have hcg := s.count_getElem k n ⟨i, hi'⟩
    have : (s.count k n).rep.counters[(⟨i, hi'⟩ : Fin 12)] ≤ 65535 := by
      rw [hcg]
      split
      · exact Nat.min_le_right _ _
      · exact hle
    simpa using this
  · have hcg := s.count_getElem k n i
    show min s.rep.counters[i] 65535 ≤ (s.count k n).rep.counters[i]
    rw [hcg]
    split <;> omega

theorem Keeps.setLatch (l : Latch) (s : State) : Keeps c s (s.setLatch l) :=
  Keeps.of_rep _ (fun _ h => h) fun _ _ => Nat.min_le_left _ _

/-- The telemetry timer is no part of the bounds. -/
theorem Keeps.of_tele (tele : Timer) (s : State) : Keeps c s { s with rep := { s.rep with tele := tele } } :=
  Keeps.of_rep _ (fun _ h => h) fun _ _ => Nat.min_le_left _ _

theorem Keeps.pushDown (f : Frame) (h : s.DriveOk → s.trv.state ≠ .locked) : Keeps c s (s.pushDown f) :=
  Keeps.of_port _ rfl fun hd hl => absurd hl (h hd)

theorem Keeps.frameTaken (link : Link) (n : Nat) (s : State) : Keeps c s (s.frameTaken link n) := by
  cases link <;> exact Keeps.of_port _ rfl fun _ _ => rfl

theorem Keeps.setReceiver (link : Link) (r : Receiver) (s : State) : Keeps c s (s.setReceiver link r) := by
  cases link <;> exact Keeps.of_port _ rfl fun _ _ => rfl

theorem Keeps.pushLow (f : Frame) (skip : Counter) (s : State) : Keeps c s (s.pushLow f skip) := by
  rcases s.pushLow_cases f skip with ⟨hroom, h⟩ | ⟨-, h⟩ <;> rw [h]
  · exact Keeps.pushUp f (by omega)
  · exact Keeps.count skip 1 s

end

end Sys2Proof.Machine
end

-- ==== Proofs: travel states, queue and approach keep their agreement ====
section
/-! The changes of travel state, queue and approach, each without the events it raises, and that they keep the
agreement of R44, R57, R59, R62, R63 and R131 and the motor power of R127. -/

namespace Sys2Proof.Machine

section

variable {c : Instr} {s t : State}

/-! ## A move: a change of travel state, queue, approach and rest interval -/

/-- `t` is `s` but for the queue, the travel state, the approach and the exchange. -/
abbrev OnlyMotion (s t : State) : Prop := t = s.withMotion t.seg t.trv t.dock t.drv

/-- The exchange is as it was, but that a running interval may have been cut. -/
def DriveExchange.SameButInterval (d e : DriveExchange) : Prop :=
  ∃ p, e = { d with period := p } ∧ p.isSome = d.period.isSome

theorem DriveExchange.SameButInterval.refl (d : DriveExchange) : d.SameButInterval d := ⟨d.period, rfl, rfl⟩

theorem State.enter_sameButInterval (u : Travel) (s : State) : s.drv.SameButInterval (s.enter u).drv := by
  rw [State.enter_drv]
  split
  · exact ⟨_, rfl, by simp⟩
  · exact .refl _

/-- The travel state stands, or neither the old nor the new one cuts the motor power. -/
def Travel.Powered (u v : Travel) : Prop := v = u ∨ ¬u.PowerCut ∧ ¬v.PowerCut

theorem State.driveOk_of_powered (hrun : s.phase = .running) (h : s.DriveOk) (hphase : t.phase = s.phase)
    (hdrv : s.drv.SameButInterval t.drv) (hu : s.trv.state.Powered t.trv.state) : t.DriveOk := by
  obtain ⟨p, he, hp⟩ := hdrv
  obtain ⟨-, hpower, hresp, hcut, hclear, hrest⟩ := h
  obtain ⟨hstop, hper⟩ := hpower hrun
  have hrun' := hphase.trans hrun
  rw [State.DriveOk, he]
  refine ⟨fun h => absurd (hrun'.symm.trans h) (by decide), fun _ => ?_, hresp, ?_, ?_, hrest⟩
  all_goals rcases hu with hu | ⟨hs, ht⟩
  · rw [hu, hp]; exact ⟨hstop, hper⟩
  · refine ⟨hstop.trans ⟨fun h => absurd h hs, fun h => absurd h ht⟩, ?_⟩
    rw [hp, hper]
    exact ⟨fun _ h => ht (.inr h), fun _ h => hs (.inr h)⟩
  · rw [hu]; exact hcut
  · exact fun h => absurd h ht
  · rw [hu]; exact hclear
  · exact fun h => absurd (.inr h) ht

/-- A move keeps every invariant where it keeps the agreement of the motion and the motor power. -/
theorem Keeps.of_move (ht : OnlyMotion s t) (hbeacon : t.dock.beacon = s.dock.beacon)
    (hdrv : s.drv.SameButInterval t.drv) (hmotion : s.MotionOk → t.MotionOk)
    (hpower : s.MotionOk → s.trv.state.Powered t.trv.state) : Keeps c s t := by
  rw [ht]
  refine Keeps.of_motion _ _ _ _ hbeacon (fun hm => ht ▸ hmotion hm) (fun hrun hm hd => ?_) fun _ hm _ hl => ?_
  · exact State.driveOk_of_powered hrun hd rfl hdrv (hpower hm)
  · rcases hpower hm with hu | ⟨hs, -⟩
    · rw [hu, hl]
    · exact absurd (.inr hl) hs

/-! ## What the agreement says -/

theorem State.MotionOk.queue_nil (h : s.MotionOk) (hc : s.trv.state ≠ .cruise) (hl : s.trv.state ≠ .limp) :
    s.seg.queue = [] := by
  obtain ⟨-, ⟨hq, -⟩, -⟩ := h
  by_contra hne
  rcases hq.mp hne with h | h
  · exact hc h
  · exact hl h

theorem State.MotionOk.yield_cruise (h : s.MotionOk) (hy : s.trv.yield = true) : s.trv.state = .cruise :=
  h.2.1.2.1 hy

theorem State.MotionOk.of_cadence (h : s.MotionOk) (hc : s.seg.cadence.isSome = true) :
    s.trv.state = .cruise ∧ s.trv.yield = false := h.2.1.2.2.1.mp hc

theorem State.MotionOk.of_grace (h : s.MotionOk) (hg : s.trv.grace.isSome = true) : s.trv.state = .limp :=
  h.2.1.2.2.2.1.mp hg

theorem State.MotionOk.of_approach (h : s.MotionOk) (ha : s.dock.approach.isSome = true) :
    s.trv.state = .approach := h.2.2.2.1.mp ha

theorem State.MotionOk.of_settle (h : s.MotionOk) (hs : s.dock.settle.isSome = true) :
    s.trv.state = .approach := by
  obtain ⟨-, -, hsub, -, hsettle, -⟩ := h
  exact hsub.mp (by rw [hsettle.mp hs]; decide)

/-- The agreement in a state with neither records nor an approach. -/
theorem State.motionOk_of_still (hq : t.seg.queue = []) (hc : t.seg.cadence = none)
    (hy : t.trv.yield = false) (hg : t.trv.grace = none)
    (hb : t.trv.backoff.isSome = true ↔ t.trv.state = .backoff)
    (hsub : t.dock.sub = .none_) (ha : t.dock.approach = none) (hbeam : t.dock.beamLost = none)
    (hsettle : t.dock.settle = none) (hcruise : t.trv.state ≠ .cruise) (hlimp : t.trv.state ≠ .limp)
    (happroach : t.trv.state ≠ .approach) : t.MotionOk := by
  refine ⟨?_, ?_, ?_⟩
  · simp [SegmentQueue.Ok, hq]
  · simp [State.TravelOk, hq, hc, hy, hg, hb, hcruise, hlimp]
  · simp [State.ApproachOk, hsub, ha, hbeam, hsettle, happroach]

/-- The agreement in an approach. -/
theorem State.motionOk_of_approach (hq : t.seg.queue = []) (hc : t.seg.cadence = none)
    (hy : t.trv.yield = false) (hg : t.trv.grace = none) (hb : t.trv.backoff = none)
    (hstate : t.trv.state = .approach) (ha : t.dock.approach.isSome = true) (hsub : t.dock.sub ≠ .none_)
    (hsettle : t.dock.settle.isSome = true ↔ t.dock.sub = .settle)
    (hbeam : t.dock.beamLost.isSome = true ↔
      (t.dock.sub = .align ∨ t.dock.sub = .creep) ∧ t.dock.dark = true) : t.MotionOk := by
  refine ⟨?_, ?_, ?_⟩
  · simp [SegmentQueue.Ok, hq]
  · simp [State.TravelOk, hq, hc, hy, hg, hb, hstate]
  · exact ⟨by simp [hsub, hstate], by simp [ha, hstate], hsettle, hbeam⟩

/-! ## Into a state without records -/

/-- A state that the robot rests in, or that halts it: no record is played and nothing else runs. -/
abbrev Travel.Still (u : Travel) : Prop := u = .idle ∨ u = .halted ∨ u = .docked

theorem Travel.Still.not_powerCut {u : Travel} (hu : u.Still) : ¬u.PowerCut := by
  rcases hu with rfl | rfl | rfl <;> decide

/-- The queue emptied, without the events of an abort. -/
def State.emptied (s : State) : State := { s with seg := { s.seg with queue := [] } }

theorem State.abortWhole_eq_emptied (reason : AbortReason) (s : State) :
    s.abortWhole reason = s.emptied.raiseAll (abortEvents s.seg.queue reason) := rfl

theorem State.motionOk_enter_still {u : Travel} (hu : u.Still) (hq : s.seg.queue = []) :
    (s.enter u).MotionOk := by
  rcases hu with rfl | rfl | rfl <;>
  exact State.motionOk_of_still hq (by simp) (by simp) (by simp) (by simp) (by simp) (by simp) (by simp)
    (by simp) (by simp) (by simp) (by simp)

theorem State.enter_beacon (u : Travel) (s : State) : (s.enter u).dock.beacon = s.dock.beacon := by
  rw [State.enter_dock]; split <;> rfl

/-- The robot comes to rest where no record is left. -/
theorem Keeps.enter_still {u : Travel} (hu : u.Still) (hq : s.MotionOk → s.seg.queue = [])
    (hs : s.MotionOk → ¬s.trv.state.PowerCut) : Keeps c s (s.enter u) :=
  Keeps.of_move rfl (s.enter_beacon u) (s.enter_sameButInterval u)
    (fun hm => State.motionOk_enter_still hu (hq hm)) fun hm => .inr ⟨hs hm, hu.not_powerCut⟩

/-- The robot comes to rest, the records gone with it. -/
theorem Keeps.emptied_enter {u : Travel} (hu : u.Still) (hs : s.MotionOk → ¬s.trv.state.PowerCut) :
    Keeps c s (s.emptied.enter u) :=
  Keeps.of_move rfl (s.emptied.enter_beacon u) (s.emptied.enter_sameButInterval u)
    (fun _ => State.motionOk_enter_still hu rfl) fun hm => .inr ⟨hs hm, hu.not_powerCut⟩

theorem State.abortWhole_enter (reason : AbortReason) (u : Travel) (s : State) :
    (s.abortWhole reason).enter u = (s.emptied.enter u).raiseAll (abortEvents s.seg.queue reason) :=
  State.raiseAll_enter _ _ _

theorem State.enter_abortWhole (reason : AbortReason) (u : Travel) (s : State) :
    (s.enter u).abortWhole reason = (s.emptied.enter u).raiseAll (abortEvents s.seg.queue reason) := rfl

theorem Keeps.abortWhole_enter {u : Travel} (reason : AbortReason) (hu : u.Still)
    (hs : s.MotionOk → ¬s.trv.state.PowerCut) : Keeps c s ((s.abortWhole reason).enter u) := by
  rw [State.abortWhole_enter]
  exact (Keeps.emptied_enter hu hs).trans (Keeps.raiseAll _ _)

theorem Keeps.enter_abortWhole {u : Travel} (reason : AbortReason) (hu : u.Still)
    (hs : s.MotionOk → ¬s.trv.state.PowerCut) : Keeps c s ((s.enter u).abortWhole reason) := by
  rw [State.enter_abortWhole]
  exact (Keeps.emptied_enter hu hs).trans (Keeps.raiseAll _ _)

/-- A halt (R96). -/
theorem Keeps.halt (reason : HaltReason) (hs : ¬s.trv.state.PowerCut) : Keeps c s (s.halt reason) := by
  rw [State.halt]
  have hbrake : Keeps c s s.brake := Keeps.pushDown _ fun _ h => hs (.inr h)
  exact (hbrake.trans (Keeps.enter_abortWhole _ (.inr (.inl rfl)) fun _ => hs)).trans
    (Keeps.raiseDockFailed _ _ _)

/-! ## Back-offs (R63 to R65) -/

theorem State.startBackoff_motionOk (reason : BackoffReason) (hq : s.seg.queue = []) :
    (s.startBackoff reason).MotionOk :=
  State.motionOk_of_still hq (by simp [State.startBackoff]) (by simp [State.startBackoff])
    (by simp [State.startBackoff]) (by simp [State.startBackoff]) (by simp [State.startBackoff])
    (by simp [State.startBackoff]) (by simp [State.startBackoff]) (by simp [State.startBackoff])
    (by simp [State.startBackoff]) (by simp [State.startBackoff]) (by simp [State.startBackoff])

theorem Keeps.startBackoff (reason : BackoffReason) (hq : s.MotionOk → s.seg.queue = [])
    (hs : s.MotionOk → ¬s.trv.state.PowerCut) : Keeps c s (s.startBackoff reason) :=
  Keeps.of_move rfl (s.enter_beacon .backoff) (s.enter_sameButInterval .backoff)
    (fun hm => State.startBackoff_motionOk reason (hq hm)) fun hm => .inr ⟨hs hm, show ¬Travel.PowerCut .backoff by decide⟩

theorem Keeps.emptied_startBackoff (reason : BackoffReason) (hs : s.MotionOk → ¬s.trv.state.PowerCut) :
    Keeps c s (s.emptied.startBackoff reason) :=
  Keeps.of_move rfl (s.emptied.enter_beacon .backoff) (s.emptied.enter_sameButInterval .backoff)
    (fun _ => State.startBackoff_motionOk reason rfl) fun hm => .inr ⟨hs hm, show ¬Travel.PowerCut .backoff by decide⟩

theorem State.raiseAll_startBackoff (es : List Event) (reason : BackoffReason) (s : State) :
    (s.raiseAll es).startBackoff reason = (s.startBackoff reason).raiseAll es := by
  rw [State.raiseAll_eq, State.raiseAll_eq]
  cases reason <;> rfl

theorem State.endBackoff_motionOk (outcome : BackoffOutcome) (b : Backoff) (hq : s.seg.queue = []) :
    (s.endBackoff outcome b).MotionOk :=
  State.motionOk_of_still hq (by simp [State.endBackoff]) (by simp [State.endBackoff])
    (by simp [State.endBackoff]) (by simp [State.endBackoff]) (by simp [State.endBackoff])
    (by simp [State.endBackoff]) (by simp [State.endBackoff]) (by simp [State.endBackoff])
    (by simp [State.endBackoff]) (by simp [State.endBackoff]) (by simp [State.endBackoff])

theorem Keeps.endBackoff (outcome : BackoffOutcome) (b : Backoff) (hs : s.trv.state = .backoff) :
    Keeps c s (s.endBackoff outcome b) :=
  Keeps.of_move rfl (s.enter_beacon .idle) (s.enter_sameButInterval .idle)
    (fun hm => State.endBackoff_motionOk outcome b (hm.queue_nil (by simp [hs]) (by simp [hs])))
    fun _ => .inr ⟨by simp [hs], show ¬Travel.PowerCut .idle by decide⟩

/-- The record of a running back-off replaced. -/
theorem Keeps.of_backoff (b : Backoff) (hs : s.trv.backoff.isSome = true) :
    Keeps c s { s with trv := { s.trv with backoff := some b } } := by
  refine Keeps.of_move rfl rfl (.refl _) (fun ⟨hseg, ⟨hq, hy, hc, hg, hb⟩, happ⟩ => ?_) fun _ => .inl rfl
  exact ⟨hseg, ⟨hq, hy, hc, hg, ⟨fun _ => hb.mp hs, fun _ => rfl⟩⟩, happ⟩

/-! ## Approaches (R137) -/

/-- An approach begins, without its event. -/
def State.inApproach (s : State) : State :=
  { s.enter .approach with dock := { s.dock with
      sub := if s.dock.contact then .settle else .seek
      approach := some (1000 * s.paramNat .approachLimit)
      settle := if s.dock.contact then some (s.paramNat .contactSettle) else none
      beamLost := none } }

theorem State.beginApproach_eq (s : State) : s.beginApproach = s.inApproach.raise .dockGranted := rfl

theorem State.inApproach_motionOk (hq : s.seg.queue = []) : s.inApproach.MotionOk := by
  refine State.motionOk_of_approach hq ?_ ?_ ?_ ?_ rfl rfl ?_ ?_ ?_ <;>
  simp only [State.inApproach, State.enter_seg, State.enter_trv] <;> cases s.dock.contact <;> simp

theorem State.raise_inApproach (e : Event) (s : State) :
    (s.raise e).inApproach = s.inApproach.raise e := by
  rw [State.raise_eq, State.raise_eq]; rfl

theorem Keeps.beginApproach (hq : s.MotionOk → s.seg.queue = [])
    (hs : s.MotionOk → ¬s.trv.state.PowerCut) : Keeps c s s.beginApproach := by
  refine Keeps.trans ?_ (Keeps.raise .dockGranted s.inApproach)
  exact Keeps.of_move rfl rfl (s.enter_sameButInterval .approach)
    (fun hm => State.inApproach_motionOk (hq hm)) fun hm => .inr ⟨hs hm, show ¬Travel.PowerCut .approach by decide⟩

theorem Keeps.emptied_inApproach (hs : s.MotionOk → ¬s.trv.state.PowerCut) :
    Keeps c s s.emptied.inApproach :=
  Keeps.of_move rfl rfl (s.emptied.enter_sameButInterval .approach)
    (fun _ => State.inApproach_motionOk rfl) fun hm => .inr ⟨hs hm, show ¬Travel.PowerCut .approach by decide⟩

/-- The beam-lost timer expires (R142). -/
theorem Keeps.beamTimeout (h : s.dock.beamLost.isSome = true) : Keeps c s s.beamTimeout := by
  refine Keeps.trans ?_ (Keeps.raise _ _)
  refine Keeps.of_move rfl rfl (.refl _) (fun ⟨hseg, htrv, hsub, ha, hsettle, hbeam⟩ => ?_) fun _ => .inl rfl
  obtain ⟨hplace, hdark⟩ := hbeam.mp h
  have hnone : s.dock.settle.isSome = true ↔ False := by
    rw [hsettle]; rcases hplace with hp | hp <;> simp [hp]
  have happ : s.trv.state = .approach := hsub.mp (by rcases hplace with hp | hp <;> simp [hp])
  exact ⟨hseg, htrv, by simp [happ], ha, by simpa using hnone, by simp⟩

end

end Sys2Proof.Machine
end

-- ==== Proofs: records, beats and yields keep the agreement ====
section
/-! The ACTIVE record's progress and completion, the beat requests and the yield, each taken apart into a move and
the events after it (R44 to R57, R60, R65, R87, R135, R136). -/

namespace Sys2Proof.Machine

/-! ## Moves in a chain -/

/-- A change of travel state, queue, approach and rest interval, whatever becomes of their agreement. -/
structure Moves (s t : State) : Prop where
  only : OnlyMotion s t
  beacon : t.dock.beacon = s.dock.beacon
  drv : s.drv.SameButInterval t.drv
  power : s.trv.state.Powered t.trv.state

section

variable {c : Instr} {s t u : State}

theorem Moves.refl (s : State) : Moves s s := ⟨rfl, rfl, .refl _, .inl rfl⟩

theorem Moves.trans (h : Moves s t) (k : Moves t u) : Moves s u where
  only := by
    rw [OnlyMotion, k.only, h.only]; rfl
  beacon := k.beacon.trans h.beacon
  drv := by
    obtain ⟨p, hp, hs⟩ := h.drv
    obtain ⟨q, hq, hs'⟩ := k.drv
    exact ⟨q, by rw [hq, hp], by rw [hs', hp, hs]⟩
  power := by
    rcases h.power with h1 | ⟨h1, h2⟩ <;> rcases k.power with k1 | ⟨k1, k2⟩
    · exact .inl (k1.trans h1)
    · exact .inr ⟨h1 ▸ k1, k2⟩
    · exact .inr ⟨h1, k1 ▸ h2⟩
    · exact .inr ⟨h1, k2⟩

theorem Keeps.of_moves (h : Moves s t) (hm : s.MotionOk → t.MotionOk) : Keeps c s t :=
  Keeps.of_move h.only h.beacon h.drv hm fun _ => h.power

/-- Where the agreement gives the move, and the move keeps it. -/
theorem Moves.enter {v : Travel} (h : s.trv.state.Powered v) : Moves s (s.enter v) :=
  ⟨rfl, s.enter_beacon v, s.enter_sameButInterval v, h⟩

theorem Moves.of_seg (q : SegmentQueue) (s : State) : Moves s { s with seg := q } :=
  ⟨rfl, rfl, .refl _, .inl rfl⟩

theorem Moves.restartCadence (s : State) : Moves s s.restartCadence := by
  rcases s.restartCadence_cases with ⟨-, -, -, h⟩ | ⟨-, h⟩ <;> rw [h]
  · exact .of_seg _ s
  · exact .refl s

theorem State.raise_restartCadence (e : Event) (s : State) :
    (s.raise e).restartCadence = s.restartCadence.raise e := by
  simp only [State.restartCadence, State.raise_trv, State.raise_seg]
  split
  · rw [State.raise_eq, State.raise_eq]; rfl
  · rfl

theorem State.raiseAll_restartCadence (es : List Event) : ∀ s : State,
    (s.raiseAll es).restartCadence = s.restartCadence.raiseAll es := by
  induction es with
  | nil => exact fun _ => rfl
  | cons e es ih => exact fun s => by rw [State.raiseAll_cons, ih, State.raise_restartCadence, State.raiseAll_cons]

/-! ## The ACTIVE record (R44, R54, R55) -/

/-- The ACTIVE record takes new values. -/
theorem Keeps.of_head {g g' : Segment} {rest : List Segment} (hq : s.seg.queue = g :: rest)
    (hok : g.Ok → g'.Ok) (hstate : g'.state = g.state) :
    Keeps c s { s with seg := { s.seg with queue := g' :: rest } } := by
  refine Keeps.of_moves (Moves.of_seg _ s) fun ⟨⟨hlen, hall, hhead, htail⟩, ⟨hqueue, htrv⟩, happ⟩ => ?_
  rw [hq] at hlen hall hhead htail hqueue
  refine ⟨⟨hlen, ?_, ?_, htail⟩, ⟨⟨fun _ => hqueue.mp (by simp), fun _ => by simp⟩, htrv⟩, happ⟩
  · exact List.forall_mem_cons.mpr ⟨hok (hall g (by simp)), fun x hx => hall x (by simp [hx])⟩
  · rintro _ ⟨⟩
    exact hstate.trans (hhead g rfl)

theorem activateHead_ok {rest : List Segment} (hok : ∀ g ∈ rest, g.Ok) (hwait : ∀ g ∈ rest, g.Waiting) :
    (∀ g ∈ activateHead rest, g.Ok) ∧ (∀ g ∈ (activateHead rest).head?, g.state = .active) ∧
    ∀ g ∈ (activateHead rest).tail, g.Waiting := by
  cases rest with
  | nil => simp [activateHead]
  | cons g rest =>
    refine ⟨List.forall_mem_cons.mpr ⟨hok g (by simp), fun x hx => hok x (by simp [hx])⟩, ?_,
      fun x hx => hwait x (List.mem_cons_of_mem _ hx)⟩
    rintro _ ⟨⟩
    rfl

@[simp] theorem activateHead_length (rest : List Segment) : (activateHead rest).length = rest.length := by
  cases rest <;> rfl

/-- The next record becomes ACTIVE. -/
theorem Keeps.activateNext {g : Segment} {rest : List Segment} (hq : s.seg.queue = g :: rest)
    (hrest : rest ≠ []) : Keeps c s { s with seg := { s.seg with queue := activateHead rest } } := by
  refine Keeps.of_moves (Moves.of_seg _ s) fun ⟨⟨hlen, hall, hhead, htail⟩, ⟨hqueue, htrv⟩, happ⟩ => ?_
  rw [hq] at hlen hall hhead htail hqueue
  obtain ⟨h1, h2, h3⟩ := activateHead_ok (fun x hx => hall x (List.mem_cons_of_mem g hx)) htail
  have hne : activateHead rest ≠ [] := by
    rw [← List.length_pos_iff, activateHead_length]; exact List.length_pos_of_ne_nil hrest
  exact ⟨⟨by simp at hlen ⊢; omega, h1, h2, h3⟩,
    ⟨⟨fun _ => hqueue.mp (by simp), fun _ => hne⟩, htrv⟩, happ⟩

/-- The last record has completed: the travel state moves on. -/
theorem Keeps.lastDone {g : Segment} (hq : s.seg.queue = [g]) :
    Keeps c s (s.emptied.raise (.segmentDone g.tag)).queueEmptied := by
  rw [State.queueEmptied, State.raise_trv]
  split
  next hstate =>
    have hs : s.MotionOk → ¬s.trv.state.PowerCut := fun _ => by rw [show s.trv.state = .cruise from hstate]; decide
    split
    · rw [State.beginApproach_eq, State.raise_inApproach]
      exact ((Keeps.emptied_inApproach hs).trans (Keeps.raise _ _)).trans (Keeps.raise _ _)
    · rw [State.raise_enter]
      exact (Keeps.emptied_enter (.inl rfl) hs).trans (Keeps.raise _ _)
  next hstate =>
    have hs : s.MotionOk → ¬s.trv.state.PowerCut := fun _ => by rw [show s.trv.state = .limp from hstate]; decide
    rw [State.raise_enter]
    exact (Keeps.emptied_enter (.inl rfl) hs).trans (Keeps.raise _ _)
  next hc hl =>
    refine (Keeps.of_moves (Moves.of_seg _ s) fun hm => ?_).trans (Keeps.raise _ _)
    exact absurd (hm.queue_nil hc hl) (by simp [hq])

theorem Keeps.completeActive (s : State) : Keeps c s s.completeActive := by
  rcases s.completeActive_cases with ⟨-, h⟩ | ⟨g, rest, hq, h⟩ <;> rw [h]
  · exact Keeps.refl c s
  split
  next hrest =>
    subst hrest
    exact Keeps.lastDone hq
  next hrest => exact (Keeps.activateNext hq hrest).trans (Keeps.raise _ _)

theorem Keeps.thenComplete {p : Prop} [Decidable p] (h : Keeps c s t) :
    Keeps c s (if p then t.completeActive else t) := by
  split
  · exact h.trans (Keeps.completeActive t)
  · exact h

theorem Keeps.segmentProgress (st : OdomStep) (s : State) : Keeps c s (s.segmentProgress st) := by
  rw [State.segmentProgress]
  split
  next => exact Keeps.refl c s
  next g rest hq =>
    exact Keeps.thenComplete (Keeps.of_head
      (g' := { g with dist := g.dist + st.ds.natAbs, turn := g.turn + st.dh }) hq id rfl)

theorem Keeps.backoffProgress (st : OdomStep) (s : State) : Keeps c s (s.backoffProgress st) := by
  rw [State.backoffProgress]
  split
  next b hstate hb =>
    dsimp only
    split
    · split
      · exact (Keeps.endBackoff _ _ hstate).trans (Keeps.raise _ _)
      · exact Keeps.endBackoff _ _ hstate
    · exact Keeps.of_backoff _ (by simp [hb])
  next => exact Keeps.refl c s

theorem Keeps.timeEvent (s : State) : Keeps c s s.timeEvent := by
  rw [State.timeEvent]
  split
  next => exact Keeps.refl c s
  next g rest hq =>
    exact Keeps.thenComplete (Keeps.of_head (g' := { g with elapsed := g.elapsed + 10 }) hq id rfl)

theorem Keeps.holdLimit (hs : ¬s.trv.state.PowerCut) : Keeps c s s.holdLimit :=
  (Keeps.enter_abortWhole _ (.inl rfl) fun _ => hs).trans (Keeps.raiseDockFailed _ _ _)

/-- The record played takes its held time; the travel state is none that cuts the motor power. -/
theorem Keeps.judgeHead (held : Bool) (hs : ¬s.trv.state.PowerCut) {g : Segment} {rest : List Segment}
    (hq : s.seg.queue = g :: rest) :
    let t : State := { s with seg := { s.seg with
      queue := { g with held := s.heldTime held g.held } :: rest } }
    Keeps c s (if s.holdReached held g.held then t.holdLimit else t) := by
  refine Keeps.trans (Keeps.of_head (g' := { g with held := s.heldTime held g.held }) hq id rfl) ?_
  split
  · exact Keeps.holdLimit hs
  · exact Keeps.refl c _

theorem Keeps.judgeHeld (held : Bool) (s : State) : Keeps c s (s.judgeHeld held) := by
  rw [State.judgeHeld]
  split
  next hstate =>
    split
    next => exact Keeps.refl c s
    next hq => exact Keeps.judgeHead held (by rw [hstate]; decide) hq
  next hstate =>
    split
    next => exact Keeps.refl c s
    next hq => exact Keeps.judgeHead held (by rw [hstate]; decide) hq
  next hstate =>
    split
    next => exact Keeps.refl c s
    next b hb =>
      dsimp only
      split
      · exact Keeps.endBackoff _ _ hstate
      · exact Keeps.of_backoff _ (by simp [hb])
  next => exact Keeps.refl c s

/-! ## MOVE's fields (R43, R49) -/

theorem MoveFields.senseless_iff (f : MoveFields) : f.senseless = false ↔ f.Meaningful := by
  simp only [MoveFields.senseless, Bool.or_eq_false_iff, Bool.and_eq_false_iff, decide_eq_false_iff_not,
    MoveFields.Meaningful]
  grind

theorem clampInt_eq {lo hi : Int} (h : lo ≤ hi) (n : Int) : clampInt lo hi n = max lo (min hi n) := by
  rw [clampInt]
  split_ifs <;> omega

theorem MoveFields.clamps_iff (f : MoveFields) : f.clamps = true ↔ f.OutOfRange := by
  simp only [MoveFields.clamps, clampInt_eq (show (-400 : Int) ≤ 600 by decide),
    clampInt_eq (show (-3000 : Int) ≤ 3000 by decide), Bool.or_eq_true, decide_eq_true_eq, MoveFields.OutOfRange]
  omega

theorem Brush.ofNumber_eq (n : Nat) : Brush.ofNumber n =
    if n = 0 then .off else if n = 1 then .low else if n = 2 then .normal else .high := by
  rcases n with _ | _ | _ | n <;> rfl

theorem MoveFields.segment_eq {f : MoveFields} (h : f.Meaningful) (state : SegState) :
    f.segment state = f.record state := by
  obtain ⟨-, hkind, -⟩ := h
  have hclamps : f.clamps = decide f.OutOfRange := by
    rw [Bool.eq_iff_iff, f.clamps_iff, decide_eq_true_eq]
  have hkinds : (ExtentKind.ofNumber? f.kind).getD .distance =
      if f.kind = 0 then .distance else if f.kind = 1 then .angle else .time := by
    obtain h0 | h1 | h2 : f.kind = 0 ∨ f.kind = 1 ∨ f.kind = 2 := by omega
    · rw [h0]; rfl
    · rw [h1]; rfl
    · rw [h2]; rfl
  simp only [MoveFields.segment, MoveFields.record, hclamps, hkinds, Brush.ofNumber_eq,
    clampInt_eq (show (-400 : Int) ≤ 600 by decide), clampInt_eq (show (-3000 : Int) ≤ 3000 by decide)]

/-- The record of a MOVE whose extent and tag fit their fields lies in the ranges of R43. -/
theorem MoveFields.record_ok {f : MoveFields} (h : f.Meaningful) (hextent : f.extent ≤ 65535)
    (htag : f.tag ≤ 255) (state : SegState) : (f.record state).Ok := by
  obtain ⟨-, hkind, h0, hlong, htime, -⟩ := h
  refine ⟨le_max_left _ _, ?_, le_max_left _ _, ?_, Nat.one_le_iff_ne_zero.mpr h0, hextent, ?_, ?_, htag⟩ <;>
    simp only [MoveFields.record]
  · omega
  · omega
  · intro hk
    exact hlong fun h1 => hk (by simp [h1])
  · intro hk
    refine htime ?_
    by_contra h2
    obtain h0 | h1 : f.kind = 0 ∨ f.kind = 1 := by omega
    · simp [h0] at hk
    · simp [h1] at hk

/-! ## The beat requests (R46 to R51, R56, R57, R60) -/

/-- A beat has passed, without the event: in LIMP the state becomes CRUISE (R60). -/
def State.passed (beat : Nat) (s : State) : State :=
  let t : State := { s with seg := { s.seg with lastBeat := some (decide (beat = 1)) } }
  if s.trv.state = .limp then t.enter .cruise else t

/-- The event of a beat that has passed (R60). -/
def State.restoredEvents (s : State) : List Event := if s.trv.state = .limp then [.cadenceRestored] else []

theorem State.passBeat_eq (beat : Nat) (s : State) :
    s.passBeat beat = (s.passed beat).raiseAll s.restoredEvents := by
  by_cases h : s.trv.state = .limp <;>
    simp [State.passBeat, State.passed, State.restoredEvents, h, State.raiseAll_cons, State.raiseAll_nil]

/-- What a MOVE whose beat has passed makes of the state, without its events, and the events of its abort. -/
def State.judged (f : MoveFields) (s : State) : State × List Event :=
  if s.trv.moveRefusal.isSome || f.senseless then (s, [])
  else if f.placement = 1 then (s.emptied.placeSegment f, abortEvents s.seg.queue .replaced)
  else if 8 ≤ s.seg.queue.length then (s, [])
  else (s.placeSegment f, [])

theorem State.raiseAll_placeSegment (es : List Event) (f : MoveFields) (s : State) :
    (s.raiseAll es).placeSegment f = (s.placeSegment f).raiseAll es := by
  simp only [State.placeSegment, State.raiseAll_seg]
  split
  · rw [State.raiseAll_eq, State.raiseAll_eq]; rfl
  · rw [State.raiseAll_eq, State.raiseAll_eq]

theorem State.judgeMove_fst (es : List Event) (f : MoveFields) (s : State) :
    ((s.raiseAll es).judgeMove f).1 = ((s.judged f).1.raiseAll es).raiseAll (s.judged f).2 := by
  simp only [State.judgeMove, State.judged, State.raiseAll_trv, State.raiseAll_seg]
  cases s.trv.moveRefusal with
  | some code => rfl
  | none =>
    by_cases hsense : f.senseless = true
    · simp only [hsense, if_true]; rfl
    simp only [hsense, Option.isSome_none, Bool.false_or, if_false, Bool.false_eq_true]
    split
    · rw [State.abortWhole_eq_emptied, State.raiseAll_placeSegment, State.raiseAll_seg]
      have hempty : (s.raiseAll es).emptied = s.emptied.raiseAll es := by
        rw [State.raiseAll_eq, State.raiseAll_eq]; rfl
      rw [hempty, State.raiseAll_placeSegment]
    · split
      · rfl
      · exact State.raiseAll_placeSegment _ _ _

/-- A MOVE refused by the beat check does nothing; any other is a move and the events after it. -/
theorem moveAct_fst (f : MoveFields) (s : State) :
    (s.seg.beatRefusal f.beat).isSome = true ∧ (moveAct f s).1 = s ∨
    s.seg.beatRefusal f.beat = none ∧
      let u := (s.passed f.beat).judged f
      (moveAct f s).1 = (u.1.restartCadence.raiseAll s.restoredEvents).raiseAll u.2 := by
  rw [moveAct]
  split
  next h => exact .inl ⟨by simp [h], rfl⟩
  next h =>
    refine .inr ⟨h, ?_⟩
    simp only [State.passBeat_eq, State.judgeMove_fst, State.raiseAll_restartCadence]

/-- The agreement of the motion but for a cadence timer that is to restart. -/
def State.MotionLoose (s : State) : Prop :=
  s.seg.Ok ∧ (s.seg.queue ≠ [] ↔ s.trv.state = .cruise ∨ s.trv.state = .limp) ∧
  (s.trv.yield = true → s.trv.state = .cruise) ∧
  (s.seg.cadence.isSome = true → s.trv.state = .cruise ∧ s.trv.yield = false) ∧
  (s.trv.grace.isSome = true ↔ s.trv.state = .limp) ∧
  (s.trv.backoff.isSome = true ↔ s.trv.state = .backoff) ∧ s.ApproachOk

theorem State.MotionOk.loose (h : s.MotionOk) : s.MotionLoose := by
  obtain ⟨hseg, ⟨hq, hy, hc, hg, hb⟩, happ⟩ := h
  exact ⟨hseg, hq, hy, hc.mp, hg, hb, happ⟩

theorem State.MotionLoose.restart (h : s.MotionLoose) : s.restartCadence.MotionOk := by
  obtain ⟨hseg, hq, hy, hc, hg, hb, happ⟩ := h
  rcases s.restartCadence_cases with ⟨h1, -, h3, he⟩ | ⟨hno, he⟩ <;> rw [he]
  · exact ⟨hseg, ⟨hq, hy, ⟨fun _ => ⟨h1, h3⟩, fun _ => rfl⟩, hg, hb⟩, happ⟩
  · exact ⟨hseg, ⟨hq, hy, ⟨hc, fun ⟨h1, h3⟩ => absurd ⟨h1, hq.mpr (.inl h1), h3⟩ hno⟩, hg, hb⟩, happ⟩

/-- Into CRUISE from a state without an approach, with records. -/
theorem State.MotionLoose.enter_cruise (hseg : s.seg.Ok) (hq : s.seg.queue ≠ [])
    (hc : s.seg.cadence = none) : (s.enter .cruise).MotionLoose := by
  refine ⟨hseg, ?_⟩
  simp [State.ApproachOk, hq, hc]

theorem State.MotionOk.passed (beat : Nat) (h : s.MotionOk) : (s.passed beat).MotionLoose := by
  rw [State.passed]
  dsimp only
  split
  next hl =>
    obtain ⟨hseg, ⟨hq, -, hc, -⟩, -⟩ := h
    refine State.MotionLoose.enter_cruise hseg (hq.mpr (.inr hl)) ?_
    exact Option.not_isSome_iff_eq_none.mp fun hsome => absurd (hl.symm.trans (hc.mp hsome).1) (by decide)
  next => exact State.MotionOk.loose h

theorem Moves.passed (beat : Nat) (s : State) : Moves s (s.passed beat) := by
  rw [State.passed]
  dsimp only
  split
  next hl => exact (Moves.of_seg _ s).trans (Moves.enter (.inr ⟨by rw [show _ = Travel.limp from hl]; decide, by decide⟩))
  next => exact Moves.of_seg _ s

theorem TravelController.moveRefusal_none {v : TravelController} (h : v.moveRefusal = none) :
    v.state = .idle ∨ v.state = .cruise ∧ v.yield = false := by
  rw [TravelController.moveRefusal] at h
  split at h <;> try simp_all

theorem Moves.placeSegment (f : MoveFields) (hs : ¬s.trv.state.PowerCut) : Moves s (s.placeSegment f) := by
  rw [State.placeSegment]
  split
  · exact (Moves.of_seg _ s).trans (Moves.enter (.inr ⟨hs, by decide⟩))
  · exact Moves.of_seg _ s

/-- The queue's form once a record has joined: the sole ACTIVE one, or a QUEUED one at the tail. -/
theorem State.MotionLoose.placeSegment {f : MoveFields} (h : s.MotionLoose) (hf : f.Meaningful)
    (hextent : f.extent ≤ 65535) (htag : f.tag ≤ 255) (hlen : s.seg.queue.length < 8) :
    (s.placeSegment f).MotionLoose := by
  obtain ⟨⟨hlen', hall, hhead, htail⟩, hq, hy, hc, hg, hb, happ⟩ := h
  rw [State.placeSegment]
  split
  next hnil =>
    refine State.MotionLoose.enter_cruise ?_ (List.cons_ne_nil _ _) ?_
    · simpa [SegmentQueue.Ok, MoveFields.segment_eq hf] using
        ⟨MoveFields.record_ok hf hextent htag .active, rfl⟩
    · refine Option.not_isSome_iff_eq_none.mp fun hsome => ?_
      exact hq.mpr (.inl (hc hsome).1) hnil
  next hne =>
    obtain ⟨g, rest, hcons⟩ := List.exists_cons_of_ne_nil hne
    rw [hcons] at hlen hall hhead htail
    refine ⟨⟨?_, ?_, ?_, ?_⟩, ⟨fun _ => hq.mp hne, fun _ => by simp⟩, hy, hc, hg, hb, happ⟩ <;>
      simp only [hcons, MoveFields.segment_eq hf]
    · simpa using hlen
    · intro x hx
      rcases List.mem_append.mp hx with hx | hx
      · exact hall x hx
      · obtain rfl := List.mem_singleton.mp hx
        exact MoveFields.record_ok hf hextent htag _
    · rintro _ ⟨⟩
      exact hhead g rfl
    · intro x hx
      rcases List.mem_append.mp (show x ∈ rest ++ [_] from hx) with hx | hx
      · exact htail x hx
      · obtain rfl := List.mem_singleton.mp hx
        exact ⟨rfl, rfl, rfl, rfl, rfl⟩

end

end Sys2Proof.Machine
end

-- ==== Proofs: the requests of the motion keep every invariant ====
section
/-! MOVE, KEEP, RESUME, DOCK, UNDOCK and the dock inputs of a SENSE frame, each a move and the events after it. -/

namespace Sys2Proof.Machine

section

variable {c : Instr} {s t : State}

/-! ## MOVE and KEEP -/

theorem MoveFields.read_extent_le (p : List Byte) : (MoveFields.read p).extent ≤ 65535 := by
  have h1 := (byteAt p 9).isLt
  have h2 := (byteAt p 10).isLt
  simp only [MoveFields.read, unsignedAt, unsigned16]
  omega

theorem MoveFields.read_tag_le (p : List Byte) : (MoveFields.read p).tag ≤ 255 := by
  have := (byteAt p 3).isLt
  simp only [MoveFields.read]
  omega

/-- The four outcomes of a MOVE whose beat has passed (R46, R48 to R50). -/
theorem State.judged_cases (f : MoveFields) (s : State) :
    (s.trv.moveRefusal.isSome = true ∨ ¬f.Meaningful ∨ f.placement ≠ 1 ∧ 8 ≤ s.seg.queue.length) ∧
      s.judged f = (s, []) ∨
    s.trv.moveRefusal = none ∧ f.Meaningful ∧
      (f.placement = 1 ∧ s.judged f = (s.emptied.placeSegment f, abortEvents s.seg.queue .replaced) ∨
       f.placement ≠ 1 ∧ s.seg.queue.length < 8 ∧ s.judged f = (s.placeSegment f, [])) := by
  simp only [State.judged]
  by_cases hr : s.trv.moveRefusal.isSome = true
  · exact .inl ⟨.inl hr, by simp [hr]⟩
  by_cases hm : f.Meaningful
  · have hsense := f.senseless_iff.mpr hm
    have hnone : s.trv.moveRefusal = none := by simpa using hr
    by_cases hp : f.placement = 1
    · exact .inr ⟨hnone, hm, .inl ⟨hp, by simp [hnone, hsense, hp]⟩⟩
    by_cases hlen : 8 ≤ s.seg.queue.length
    · exact .inl ⟨.inr (.inr ⟨hp, hlen⟩), by simp [hnone, hsense, hp, hlen]⟩
    · exact .inr ⟨hnone, hm, .inr ⟨hp, by omega, by simp [hnone, hsense, hp, hlen]⟩⟩
  · have hsense : f.senseless = true := by
      by_contra hs
      exact hm (f.senseless_iff.mp (by simpa using hs))
    exact .inl ⟨.inr (.inl hm), by simp [hsense]⟩

theorem TravelController.not_powerCut_of_moveRefusal {v : TravelController} (h : v.moveRefusal = none) :
    ¬v.state.PowerCut := by
  rcases v.moveRefusal_none h with h | ⟨h, -⟩ <;> rw [h] <;> decide

theorem Moves.judged (f : MoveFields) (s : State) : Moves s (s.judged f).1 := by
  rcases s.judged_cases f with ⟨-, h⟩ | ⟨hnone, -, ⟨-, h⟩ | ⟨-, -, h⟩⟩ <;> rw [h]
  · exact .refl s
  · exact Moves.trans (t := s.emptied) (Moves.of_seg _ s)
      (Moves.placeSegment f (TravelController.not_powerCut_of_moveRefusal hnone))
  · exact Moves.placeSegment f (TravelController.not_powerCut_of_moveRefusal hnone)

/-- A sole record in CRUISE, or none before it: the agreement but for the cadence timer. -/
theorem State.MotionLoose.emptied_placeSegment {f : MoveFields} (h : s.MotionLoose) (hf : f.Meaningful)
    (hextent : f.extent ≤ 65535) (htag : f.tag ≤ 255) (hnone : s.trv.moveRefusal = none) :
    (s.emptied.placeSegment f).restartCadence.MotionOk := by
  obtain ⟨-, -, hy, hc, hg, hb, happ⟩ := h
  have hok := MoveFields.record_ok hf hextent htag .active
  have hplaced : s.emptied.placeSegment f =
      ({ s with seg := { s.seg with queue := [f.record .active] } } : State).enter .cruise := by
    rw [State.placeSegment, if_pos (show s.emptied.seg.queue = [] from rfl), MoveFields.segment_eq hf]; rfl
  refine State.MotionLoose.restart ?_
  rw [hplaced]
  have hseg : ({ s.seg with queue := [f.record .active] } : SegmentQueue).Ok := by
    simpa [SegmentQueue.Ok] using ⟨hok, rfl⟩
  rcases s.trv.moveRefusal_none hnone with hidle | ⟨hcruise, hyield⟩
  · refine ⟨hseg, ?_⟩
    have hcad : s.seg.cadence = none :=
      Option.not_isSome_iff_eq_none.mp fun hsome => absurd (hidle.symm.trans (hc hsome).1) (by decide)
    simp [State.ApproachOk, hcad]
  · refine ⟨hseg, ?_⟩
    simp [State.ApproachOk, hyield]

theorem State.MotionLoose.judged {f : MoveFields} (h : s.MotionLoose) (hextent : f.extent ≤ 65535)
    (htag : f.tag ≤ 255) : (s.judged f).1.restartCadence.MotionOk := by
  rcases s.judged_cases f with ⟨-, he⟩ | ⟨hnone, hf, ⟨-, he⟩ | ⟨-, hlen, he⟩⟩ <;> rw [he]
  · exact h.restart
  · exact h.emptied_placeSegment hf hextent htag hnone
  · exact (h.placeSegment hf hextent htag hlen).restart

theorem Keeps.moveAct {f : MoveFields} (hextent : f.extent ≤ 65535) (htag : f.tag ≤ 255) (s : State) :
    Keeps c s (moveAct f s).1 := by
  rcases moveAct_fst f s with ⟨-, h⟩ | ⟨-, h⟩ <;> rw [h]
  · exact Keeps.refl c s
  · refine ((Keeps.of_moves ?_ fun hm => ?_).trans (Keeps.raiseAll _ _)).trans (Keeps.raiseAll _ _)
    · exact ((Moves.passed f.beat s).trans (Moves.judged f _)).trans (Moves.restartCadence _)
    · exact (hm.passed f.beat).judged hextent htag

/-- A KEEP refused by the beat check does nothing; any other is a move and the events after it (R56). -/
theorem keepAct_fst (beat : Nat) (s : State) :
    (s.seg.beatRefusal beat).isSome = true ∧ (keepAct beat s).1 = s ∨
    s.seg.beatRefusal beat = none ∧
      (keepAct beat s).1 = (s.passed beat).restartCadence.raiseAll s.restoredEvents := by
  rw [keepAct]
  split
  next h => exact .inl ⟨by simp [h], rfl⟩
  next h => exact .inr ⟨h, by simp only [State.passBeat_eq, State.raiseAll_restartCadence]⟩

theorem Keeps.keepAct (beat : Nat) (s : State) : Keeps c s (keepAct beat s).1 := by
  rcases keepAct_fst beat s with ⟨-, h⟩ | ⟨-, h⟩ <;> rw [h]
  · exact Keeps.refl c s
  · exact (Keeps.of_moves ((Moves.passed beat s).trans (Moves.restartCadence _))
      fun hm => (hm.passed beat).restart).trans (Keeps.raiseAll _ _)

/-! ## RESUME, DOCK and UNDOCK -/

theorem Keeps.resumeAct (s : State) : Keeps c s (resumeAct s).1 := by
  rw [Machine.resumeAct]
  split
  next hstate =>
    split
    · exact Keeps.refl c s
    · exact Keeps.enter_still (.inl rfl) (fun hm => hm.queue_nil (by simp [hstate]) (by simp [hstate]))
        fun _ => by rw [hstate]; decide
  next => exact Keeps.refl c s

/-- A yield begins, without its events (R135). -/
def State.yielding (s : State) : State :=
  { s with trv := { s.trv with yield := true }, seg := { s.seg with queue := s.seg.queue.take 1, cadence := none } }

theorem State.beginYield_eq (s : State) :
    s.beginYield = s.yielding.raiseAll (abortEvents (s.seg.queue.drop 1) .yield) := by
  rw [State.beginYield, State.abortQueued, State.raiseAll_eq, State.raiseAll_eq]
  rfl

theorem Keeps.beginYield (hstate : s.trv.state = .cruise) : Keeps c s s.beginYield := by
  rw [State.beginYield_eq]
  refine (Keeps.of_moves (t := s.yielding) ⟨rfl, rfl, .refl _, .inl rfl⟩ fun hm => ?_).trans (Keeps.raiseAll _ _)
  obtain ⟨⟨-, hall, hhead, -⟩, ⟨hq, -, -, hg, hb⟩, happ⟩ := hm
  obtain ⟨g, rest, hcons⟩ := List.exists_cons_of_ne_nil (hq.mpr (.inl hstate))
  rw [hcons] at hall hhead
  have hg1 := hall g (by simp)
  have hg2 := hhead g rfl
  refine ⟨?_, ⟨?_, fun _ => hstate, ?_, hg, hb⟩, happ⟩
  · simpa [SegmentQueue.Ok, State.yielding, hcons] using ⟨hg1, hg2⟩
  · simp [State.yielding, hcons, hstate]
  · simp [State.yielding]

theorem State.cancelYield_eq (s : State) : s.cancelYield =
    ({ s with trv := { s.trv with yield := false } } : State).restartCadence.raise (.dockFailed .cancelled) := by
  rw [State.cancelYield, State.raise_restartCadence]

theorem Keeps.cancelYield (hstate : s.trv.state = .cruise) (hy : s.trv.yield = true) :
    Keeps c s s.cancelYield := by
  rw [State.cancelYield_eq]
  refine (Keeps.of_moves (Moves.trans (t := { s with trv := { s.trv with yield := false } })
    ⟨rfl, rfl, .refl _, .inl rfl⟩ (Moves.restartCadence _)) fun hm => ?_).trans (Keeps.raise _ _)
  obtain ⟨hseg, ⟨hq, -, hc, hg, hb⟩, happ⟩ := hm
  exact State.MotionLoose.restart
    ⟨hseg, hq, fun _ => hstate, fun hsome => absurd (hy.symm.trans (hc.mp hsome).2) (by decide), hg, hb, happ⟩

theorem Keeps.dockAct (s : State) : Keeps c s (dockAct s).1 := by
  rw [Machine.dockAct]
  split
  next hstate =>
    exact Keeps.beginApproach (fun hm => hm.queue_nil (by simp [hstate]) (by simp [hstate]))
      fun _ => by rw [hstate]; decide
  next hstate =>
    split
    · exact Keeps.refl c s
    · exact Keeps.beginYield hstate
  next => exact Keeps.refl c s
  next => exact Keeps.refl c s

theorem Keeps.undockAct (s : State) : Keeps c s (undockAct s).1 := by
  rw [Machine.undockAct]
  split
  next hstate =>
    exact Keeps.startBackoff .undock (fun hm => hm.queue_nil (by simp [hstate]) (by simp [hstate]))
      fun _ => by rw [hstate]; decide
  next hstate =>
    exact (Keeps.enter_still (.inl rfl) (fun hm => hm.queue_nil (by simp [hstate]) (by simp [hstate]))
      fun _ => by rw [hstate]; decide).trans (Keeps.raise _ _)
  next hstate =>
    split
    next hy => exact Keeps.cancelYield hstate hy
    next => exact Keeps.refl c s
  next => exact Keeps.refl c s

/-! ## The dock inputs (R132, R133, R141 to R143) -/

/-- The substate after a frame, from the contact and whether both codes are NONE or both are NEAR (R141,
R143). -/
def Substate.after (contact dark near : Bool) : Substate → Substate
  | .seek => if contact then .settle else if dark then .seek else .align
  | .align => if contact then .settle else if near then .creep else .align
  | .creep => if contact then .settle else .creep
  | .settle => if contact then .settle else .creep
  | .none_ => .none_

/-- The settle timer after a frame (R143). -/
def State.settleAfter (contact : Bool) (s : State) : Timer :=
  if s.dock.sub = .settle then (if contact then s.dock.settle else none)
  else if contact ∧ s.dock.sub ≠ .none_ then some (s.paramNat .contactSettle)
  else s.dock.settle

/-- The codes and the contact of a frame recorded (R132). -/
def State.seen (f : SenseFields) (s : State) : State :=
  { s with dock := { s.dock with codeL := f.codeL, codeR := f.codeR, contact := f.contact } }

/-- The approach after a frame, without its event (R132, R141 to R143). -/
def State.steered (f : SenseFields) (s : State) : State :=
  let d := (s.seen f).dock
  let sub := s.dock.sub.after f.contact d.dark d.bothNear
  { s with dock := { d with
      sub := sub
      settle := s.settleAfter f.contact
      beamLost := if (sub = .align ∨ sub = .creep) ∧ d.dark = true
        then some (s.dock.beamLost.getD (s.paramNat .beamLost)) else none } }

/-- The event of a change of substate (R141, R143). -/
def Substate.eventsTo (before after : Substate) : List Event :=
  if after = before ∨ after = .settle then []
  else if after = .align then [.beamFound] else [.dockCreep]

theorem State.raise_setBeamLost (e : Event) (s : State) :
    (s.raise e).setBeamLost = s.setBeamLost.raise e := by
  simp only [State.raise_eq]; rfl

/-- In APPROACH a frame steers the substates, and raises at most one event (R141 to R143). -/
theorem State.takeDockInputs_approach (f : SenseFields) (h : s.trv.state = .approach) :
    s.takeDockInputs f = (s.steered f).raiseAll (s.dock.sub.eventsTo (s.steered f).dock.sub) := by
  have hseen : s.takeDockInputs f = (s.seen f).contactMove.codeMove.setBeamLost := if_pos h
  have hdark (d : DockUnit) : d.dark = (d.codeL == .none_ && d.codeR == .none_) := rfl
  have hnear (d : DockUnit) : d.bothNear = (d.codeL == .near && d.codeR == .near) := rfl
  rw [hseen]
  simp only [State.steered, State.settleAfter, State.seen, hdark, hnear]
  cases hsub : s.dock.sub <;> cases hc : f.contact <;>
    simp only [State.contactMove, State.codeMove, State.raise_dock, hdark, hnear] <;>
    generalize hd : (f.codeL == .none_ && f.codeR == .none_) = dark <;>
    generalize hn : (f.codeL == .near && f.codeR == .near) = near <;>
    cases dark <;> cases near <;>
    simp only [State.raise_setBeamLost, if_true, if_false, Bool.false_eq_true] <;>
    simp [State.setBeamLost, State.setSub, Substate.after, Substate.eventsTo,
      State.raiseAll_cons, State.raiseAll_nil, State.paramNat, State.param, hdark, hd]

theorem State.steered_motionOk (f : SenseFields) (h : s.trv.state = .approach) (hm : s.MotionOk) :
    (s.steered f).MotionOk := by
  have hq := hm.queue_nil (by simp [h]) (by simp [h])
  obtain ⟨-, ⟨-, hy, hc, hg, hb⟩, hsub, ha, hsettle, hbeam⟩ := hm
  have hne : s.dock.sub ≠ .none_ := hsub.mpr h
  have hyield : s.trv.yield = false := by
    by_contra hy'
    exact absurd (h.symm.trans (hy (by simpa using hy'))) (by decide)
  refine State.motionOk_of_approach hq ?_ hyield ?_ ?_ h (ha.mpr h) ?_ ?_ ?_
  · exact Option.not_isSome_iff_eq_none.mp fun hs => absurd (h.symm.trans (hc.mp hs).1) (by decide)
  · exact Option.not_isSome_iff_eq_none.mp fun hs => absurd (h.symm.trans (hg.mp hs)) (by decide)
  · exact Option.not_isSome_iff_eq_none.mp fun hs => absurd (h.symm.trans (hb.mp hs)) (by decide)
  · simp only [State.steered]
    cases hs : s.dock.sub <;> simp only [Substate.after] <;> first | exact absurd hs hne | split_ifs <;> decide
  · simp only [State.steered, State.settleAfter]
    cases hs : s.dock.sub <;> cases hcontact : f.contact <;> simp_all [Substate.after] <;> split_ifs <;> simp
  · simp only [State.steered]
    split
    next hw => exact ⟨fun _ => hw, fun _ => rfl⟩
    next hw => exact ⟨fun hs => absurd hs (by simp), fun hs => absurd hs hw⟩

/-- The three outcomes of the contact rule (R133). -/
theorem State.contactRule_cases (before after : Bool) (s : State) :
    s.trv.state = .idle ∧ before = false ∧ after = true ∧ s.contactRule before after = s.dockNow ∨
    s.trv.state = .docked ∧ before = true ∧ after = false ∧ s.contactRule before after =
      ((s.enter .idle).setQuality s.pose.quality.doubted).raise .contactLost ∨
    ¬(s.trv.state = .idle ∧ before = false ∧ after = true) ∧
      ¬(s.trv.state = .docked ∧ before = true ∧ after = false) ∧ s.contactRule before after = s := by
  cases hstate : s.trv.state <;> cases before <;> cases after <;> simp [State.contactRule, hstate]

theorem Quality.doubted_ok : ∀ q : Quality, q.doubted = if q = .good then .degraded else q := by
  intro q; cases q <;> rfl

/-- The pose quality is no part of the ranges of the pose. -/
theorem Keeps.setQuality (q : Quality) (s : State) : Keeps c s (s.setQuality q) :=
  Keeps.of_pose _ (fun _ h => h) fun _ _ => rfl

theorem Param.row_mem (p : Param) : p.row ∈ paramTable ∧ p.row.param = p := by
  cases p <;> exact ⟨by decide, rfl⟩

/-- A parameter lies in the range of its row (R182). -/
theorem State.ParamsOk.row (h : s.ParamsOk) (p : Param) : p.row.lo ≤ s.param p ∧ s.param p ≤ p.row.hi := by
  have hr := h.1 p.row p.row_mem.1
  rwa [p.row_mem.2] at hr

/-- The dock-pose setting takes parameters that lie on the map (R37, R182). -/
theorem Keeps.setDockPose (hs : s.trv.state ≠ .locked) : Keeps c s s.setDockPose := by
  refine Keeps.of_pose _ (fun hp _ => ?_) fun _ hl => absurd hl hs
  have hx : (-12800000 : Int) ≤ s.param .dockX ∧ s.param .dockX ≤ 12799999 := hp.row .dockX
  have hy : (-12800000 : Int) ≤ s.param .dockY ∧ s.param .dockY ≤ 12799999 := hp.row .dockY
  have hh : (0 : Int) ≤ s.param .dockH ∧ s.param .dockH ≤ 65535 := hp.row .dockH
  refine ⟨hx.1, hx.2, hy.1, hy.2, ?_, Nat.zero_le _, Nat.zero_le _⟩
  simp only [State.paramNat]
  omega

theorem Keeps.dockNow (hq : s.MotionOk → s.seg.queue = []) (hs : s.MotionOk → ¬s.trv.state.PowerCut) :
    Keeps c s s.dockNow :=
  (((Keeps.enter_still (.inr (.inr rfl)) hq hs).trans (Keeps.setDockPose (by simp))).trans
    (Keeps.raise _ _)).trans (Keeps.raise _ _)

theorem Keeps.takeDockInputs (f : SenseFields) (s : State) : Keeps c s (s.takeDockInputs f) := by
  by_cases h : s.trv.state = .approach
  · rw [State.takeDockInputs_approach f h]
    refine (Keeps.of_moves ?_ fun hm => State.steered_motionOk f h hm).trans (Keeps.raiseAll _ _)
    exact ⟨rfl, rfl, .refl _, .inl rfl⟩
  have hseen : Keeps c s (s.seen f) := by
    refine Keeps.of_moves ⟨rfl, rfl, .refl _, .inl rfl⟩ fun ⟨hseg, htrv, hsub, ha, hsettle, hbeam⟩ => ?_
    have hnone : s.dock.sub = .none_ := by
      by_contra hs
      exact h (hsub.mp hs)
    have hb : s.dock.beamLost.isSome = true ↔ False := by rw [hbeam, hnone]; simp
    exact ⟨hseg, htrv, hsub, ha, hsettle, by simpa [State.seen, hnone] using hb⟩
  have hrule : s.takeDockInputs f = (s.seen f).contactRule s.dock.contact f.contact := if_neg h
  rw [hrule]
  refine hseen.trans ?_
  rcases (s.seen f).contactRule_cases s.dock.contact f.contact with
    ⟨hstate, -, -, he⟩ | ⟨hstate, -, -, he⟩ | ⟨-, -, he⟩ <;> rw [he]
  · exact Keeps.dockNow (fun hm => hm.queue_nil (by simp [hstate]) (by simp [hstate]))
      fun _ => by rw [hstate]; decide
  · have hidle : Keeps c (s.seen f) ((s.seen f).enter .idle) :=
      Keeps.enter_still (.inl rfl) (fun hm => hm.queue_nil (by simp [hstate]) (by simp [hstate]))
        fun _ => by rw [hstate]; decide
    exact (hidle.trans (Keeps.setQuality _ _)).trans (Keeps.raise _ _)
  · exact Keeps.refl c _

end

end Sys2Proof.Machine
end

-- ==== Proofs: the ranges of a computation ====
section
/-! What a computation sends lies in the ranges of the envelope record (R69, R72 to R85), and what an answer makes of
the pose lies on the map (R24, R29, R30, R33). -/

namespace Sys2Proof.Machine

section

variable {c : Instr} {s t : State}

/-! ## The ramp and the cut (R74, R83) -/

theorem ramp_range {rise fall p goal top : Int} (hrise : 0 < rise) (hfall : 0 < fall) (hp : -top ≤ p ∧ p ≤ top)
    (hgoal : -top ≤ goal ∧ goal ≤ top) : -top ≤ ramp rise fall p goal ∧ ramp rise fall p goal ≤ top := by
  simp only [ramp, moveToward]
  split_ifs <;> omega

theorem rampStep_pos (rate : Int) : 0 < rampStep rate := lt_of_lt_of_le Int.one_pos (le_max_left _ _)

theorem cutTo_range {bound u top : Int} (hb : 0 ≤ bound) (hu : -top ≤ u ∧ u ≤ top) :
    -top ≤ cutTo bound u ∧ cutTo bound u ≤ top := by
  rw [cutTo]
  split
  · exact hu
  · rcases lt_trichotomy u 0 with h | h | h
    · rw [Int.sign_eq_neg_one_of_neg h]; omega
    · subst h; simp; omega
    · rw [Int.sign_eq_one_of_pos h]; omega

/-! ## The target (R72, R140) -/

theorem State.approachTarget_range {goal : Target} (htables : s.TablesOk) (h : s.approachTarget = some goal) :
    -600 ≤ goal.v ∧ goal.v ≤ 600 := by
  obtain ⟨hp, -, hb⟩ := htables
  have hcreep : (20 : Int) ≤ s.param .creepSpeed ∧ s.param .creepSpeed ≤ 150 := hp.row .creepSpeed
  have hentry : -100 ≤ s.dock.entry.v ∧ s.dock.entry.v ≤ 150 := by
    obtain ⟨h1, h2, -⟩ := hb s.dock.entry (by simp [DockUnit.entry])
    exact ⟨h1, h2⟩
  simp only [State.approachTarget] at h
  cases hsub : s.dock.sub <;> simp only [hsub] at h <;> (try split_ifs at h) <;> cases h <;> dsimp only <;> omega

theorem State.target_range {goal : Target} (htables : s.TablesOk) (hseg : s.seg.Ok) (h : s.target = some goal) :
    -600 ≤ goal.v ∧ goal.v ≤ 600 := by
  have hback : (50 : Int) ≤ s.param .backoffSpeed ∧ s.param .backoffSpeed ≤ 300 := htables.1.row .backoffSpeed
  obtain ⟨-, hall, -⟩ := hseg
  have hplayed (hq : (match s.seg.queue with
      | g :: _ => some (⟨g.v, g.w⟩ : Target)
      | [] => some ⟨0, 0⟩) = some goal) : -600 ≤ goal.v ∧ goal.v ≤ 600 := by
    split at hq <;> cases hq
    next g rest hcons =>
      obtain ⟨h1, h2, -⟩ := hall g (by simp [hcons])
      dsimp only; omega
    next => decide
  cases hstate : s.trv.state <;> simp only [State.target, hstate] at h
  case idle => cases h; decide
  case cruise => exact hplayed h
  case limp => exact hplayed h
  case backoff => cases h; dsimp only; omega
  case approach => exact s.approachTarget_range htables h
  all_goals cases h

/-! ## The probe and the bound (R76 to R82) -/

theorem State.blockingDistance_range (s : State) (r : Rays) :
    0 ≤ s.blockingDistance r ∧ s.blockingDistance r ≤ 1280 := by
  rw [State.blockingDistance]
  split
  · decide
  split
  next k hk =>
    have := List.mem_range'_1.mp (List.mem_of_find?_eq_some hk)
    omega
  next => decide

theorem foldl_min_nonneg {l : List Int} (hl : ∀ b ∈ l, 0 ≤ b) {a : Int} (ha : 0 ≤ a) : 0 ≤ l.foldl min a :=
  List.foldlRecOn l min (motive := (0 ≤ ·)) ha fun _ hb x hx => le_min hb (hl x hx)

theorem State.boundTerms_nonneg (hp : s.ParamsOk) (r : Rays) (u : Int) : ∀ b ∈ s.boundTerms r u, 0 ≤ b := by
  have h1 : (50 : Int) ≤ s.param .reverseCap := (hp.row .reverseCap).1
  have h2 : (50 : Int) ≤ s.param .degradedCap := (hp.row .degradedCap).1
  have h3 : (50 : Int) ≤ s.param .lostCap := (hp.row .lostCap).1
  have h4 : (30 : Int) ≤ s.param .limpSpeed := (hp.row .limpSpeed).1
  have hcaps : ∀ b ∈ s.classCaps r, 0 ≤ b := by
    intro b hb
    rw [State.classCaps] at hb
    split at hb
    · simp at hb
    · obtain ⟨k, -, hb⟩ := List.mem_flatMap.mp hb
      obtain ⟨q, -, hq⟩ := List.mem_filterMap.mp hb
      dsimp only at hq
      split at hq <;> cases hq
      exact Int.natCast_nonneg _
  intro b hb
  simp only [State.boundTerms, List.mem_append, or_assoc] at hb
  rcases hb with hb | hb | hb | hb | hb | hb
  · exact hcaps b hb
  all_goals
    split at hb
    · obtain rfl := List.mem_singleton.mp hb; omega
    · simp at hb

theorem State.bound_range (hp : s.ParamsOk) (r : Rays) (u : Int) {d : Int} (hd : d ≤ 1280) :
    0 ≤ s.bound r u d ∧ s.bound r u d ≤ 2244 := by
  have hdecel : (200 : Int) ≤ s.param .decel ∧ s.param .decel ≤ 2000 := hp.row .decel
  have hmargin : (20 : Int) ≤ s.param .margin := (hp.row .margin).1
  refine ⟨foldl_min_nonneg (State.boundTerms_nonneg hp r u) lawSpeed_nonneg, ?_⟩
  exact (s.bound_le_lawSpeed r u d).trans (lawSpeed_le_top (by omega) hdecel.2 hmargin hd)

/-! ## The computation (R71, R85) -/

theorem State.wheel_range (hp : s.ParamsOk) (n : Int) : -700 ≤ s.wheel n ∧ s.wheel n ≤ 700 := by
  have hw : (100 : Int) ≤ s.param .wheelMax ∧ s.param .wheelMax ≤ 700 := hp.row .wheelMax
  rw [State.wheel, clampInt]
  split_ifs <;> omega

/-- The record a computation leaves (R69). -/
def State.envelopeAfter (s : State) : EnvelopeRecord :=
  let c := s.computation
  { p := c.v, lastD := c.d, lastBound := c.bound, left := c.left, right := c.right }

theorem State.compute_ranges (htables : s.TablesOk) (hp : -600 ≤ s.env.p ∧ s.env.p ≤ 600) {goal : Target}
    (hgoal : -600 ≤ goal.v ∧ goal.v ≤ 600) :
    let c := s.compute goal
    (-600 ≤ c.v ∧ c.v ≤ 600) ∧ (0 ≤ c.d ∧ c.d ≤ 1280) ∧ (0 ≤ c.bound ∧ c.bound ≤ 2244) ∧
    (-700 ≤ c.left ∧ c.left ≤ 700) ∧ -700 ≤ c.right ∧ c.right ≤ 700 := by
  have hu := ramp_range (rampStep_pos (s.param .accel)) (rampStep_pos (s.param .decel)) hp hgoal
  simp only [State.compute]
  generalize ramp (rampStep (s.param .accel)) (rampStep (s.param .decel)) s.env.p goal.v = u at hu
  refine ⟨?_, ?_, ?_, State.wheel_range htables.1 _, State.wheel_range htables.1 _⟩ <;>
    by_cases h0 : u = 0 <;> simp only [h0, if_true, if_false]
  · decide
  · exact cutTo_range (State.bound_range htables.1 _ _ (s.blockingDistance_range _).2).1 hu
  · decide
  · exact s.blockingDistance_range _
  · decide
  · exact State.bound_range htables.1 _ _ (s.blockingDistance_range _).2

theorem State.envelopeAfter_ok (htables : s.TablesOk) (hseg : s.seg.Ok) (he : s.EnvelopeOk) :
    ({ s with env := s.envelopeAfter } : State).EnvelopeOk := by
  simp only [State.EnvelopeOk, State.envelopeAfter, State.computation]
  split
  next => decide
  next goal hgoal =>
    obtain ⟨⟨h1, h2⟩, ⟨h3, h4⟩, ⟨h5, h6⟩, ⟨h7, h8⟩, h9, h10⟩ :=
      State.compute_ranges htables ⟨he.1, he.2.1⟩ (State.target_range htables hseg hgoal)
    exact ⟨h1, h2, h3, h4, h5, h6, h7, h8, h9, h10⟩

/-! ## The odometry step (R28 to R33) -/

theorem clampToMap_range (n : Int) : -12800000 ≤ clampToMap n ∧ clampToMap n ≤ 12799999 := by
  rw [clampToMap, clampInt]
  split_ifs <;> omega

theorem stallFires_iff (k count after : Nat) : stallFires k count after = true ↔ count < after ∧ k ≤ after := by
  simp [stallFires]

/-- A stall count after an answer, before it fires (R33). -/
def stallChecked (checked : Bool) (n : Nat) (sent delta : Int) : Nat :=
  if checked then stallAfter n sent delta else n

theorem stallChecked_le (checked : Bool) (n : Nat) (sent delta : Int) :
    stallChecked checked n sent delta ≤ n + 1 := by
  simp only [stallChecked, stallAfter]
  split_ifs <;> omega

/-- A stall count that fires returns to 0, and one that does not lies below ODOM_CHECK_K (R33, R34). -/
theorem stallKept_le {k n : Nat} (hk : k ≤ 50) (hn : n ≤ 49) (sent delta : Int) (checked : Bool) :
    (if stallFires k n (stallChecked checked n sent delta) then 0 else stallChecked checked n sent delta) ≤ 49 := by
  have hle := stallChecked_le checked n sent delta
  split
  · omega
  next h =>
    rw [stallFires_iff] at h
    omega

theorem State.handover_poseOk (hp : s.ParamsOk) (h : s.PoseOk) (left right : Nat) (base : Nat × Nat)
    (ready : Bool) : ({ s with pose := (s.handover left right base ready).pose } : State).PoseOk := by
  have hk : s.paramNat .odomCheckK ≤ 50 := by
    have : s.param .odomCheckK ≤ 50 := (hp.row .odomCheckK).2
    simp only [State.paramNat]; omega
  obtain ⟨hx, hx', hy, hy', hh, hl, hr⟩ := h
  have hl' := stallKept_le hk hl s.drv.sentL (wheelDelta left base.1)
  have hr' := stallKept_le hk hr s.drv.sentR (wheelDelta right base.2)
  by_cases hjump : s.paramNat .maxTicks < (wheelDelta left base.1).natAbs ∨
      s.paramNat .maxTicks < (wheelDelta right base.2).natAbs
  · simp only [State.handover, if_pos hjump]
    exact ⟨hx, hx', hy, hy', hh, hl' _, hr' _⟩
  · simp only [State.handover, if_neg hjump]
    refine ⟨(clampToMap_range _).1, (clampToMap_range _).2, (clampToMap_range _).1, (clampToMap_range _).2, ?_,
      hl' _, hr' _⟩
    simp only [PoseUnit.integrate, PoseUnit.advance]
    omega

end

end Sys2Proof.Machine
end

-- ==== Proofs: the drive exchange keeps every invariant ====
section
/-! DRIVE_PERIOD, ODOM, the response timer and drive faults (R54, R70, R114 to R127). -/

namespace Sys2Proof.Machine

section

variable {c : Instr} {s t : State}

/-! ## Changes of the exchange alone -/

theorem Keeps.of_drv (d : DriveExchange)
    (hdrive : s.phase = .running → s.DriveOk → ({ s with drv := d } : State).DriveOk) :
    Keeps c s { s with drv := d } :=
  Keeps.of_motion s.seg s.trv s.dock d rfl id (fun hrun _ => hdrive hrun) fun _ _ _ => id

/-- Outside LOCKED and start-up the exchange may take any phase, the response timer running with OUTSTANDING. -/
theorem State.DriveOk.of_exchange (hrun : s.phase = .running) (h : s.DriveOk) (hs : s.trv.state ≠ .locked)
    (d : DriveExchange) (hstop : d.stopN = s.drv.stopN) (hper : d.period.isSome = s.drv.period.isSome)
    (hresp : d.response.isSome = true ↔ d.phase = .outstanding) (hguard : d.guard = s.drv.guard)
    (hfault : s.drv.fault.isSome = true → d.fault.isSome = true) (hnext : d.nextTag < 16) (htag : d.exTag < 16)
    (hmiss : d.misses ≤ 255) (hwait : d.waits ≤ 65535) : ({ s with drv := d } : State).DriveOk := by
  obtain ⟨-, hpower, -, hcut, -⟩ := h
  obtain ⟨h1, h2⟩ := hpower hrun
  refine ⟨fun h => absurd (hrun.symm.trans h) (by decide), fun _ => ⟨?_, ?_⟩, hresp, fun hc => ?_,
    fun hl => absurd hl hs, hnext, htag, hmiss, hwait⟩
  · rw [hstop]; exact h1
  · rw [hper]; exact h2
  · obtain ⟨hg, hf⟩ := hcut hc
    exact ⟨by rw [hguard]; exact hg, hfault hf⟩

theorem State.DriveOk.not_locked_of_period (hrun : s.phase = .running) (h : s.DriveOk)
    (hp : s.drv.period.isSome = true) : s.trv.state ≠ .locked := (h.2.1 hrun).2.mp hp

theorem State.DriveOk.not_locked_of_phase (h : s.DriveOk) (hp : s.drv.phase ≠ .clear) :
    s.trv.state ≠ .locked := fun hl => hp (h.2.2.2.2.1 hl)

theorem State.DriveOk.not_locked_of_response (h : s.DriveOk) (hr : s.drv.response.isSome = true) :
    s.trv.state ≠ .locked :=
  h.not_locked_of_phase (by rw [h.2.2.1.mp hr]; decide)

/-! What DriveOk says, part by part. -/

theorem State.DriveOk.response_iff (h : s.DriveOk) :
    s.drv.response.isSome = true ↔ s.drv.phase = .outstanding := h.2.2.1

theorem State.DriveOk.nextTag_lt (h : s.DriveOk) : s.drv.nextTag < 16 := h.2.2.2.2.2.1

theorem State.DriveOk.exTag_lt (h : s.DriveOk) : s.drv.exTag < 16 := h.2.2.2.2.2.2.1

theorem State.DriveOk.misses_le (h : s.DriveOk) : s.drv.misses ≤ 255 := h.2.2.2.2.2.2.2.1

theorem State.DriveOk.waits_le (h : s.DriveOk) : s.drv.waits ≤ 65535 := h.2.2.2.2.2.2.2.2

/-! ## Drive faults (R120 to R124) -/

theorem Keeps.enterFault (kind : FaultKind) (code : Nat) (hs : ¬s.trv.state.PowerCut)
    (hguard : s.drv.guard = none) (hfault : s.drv.fault.isSome = true) :
    Keeps c s (s.enterFault kind code) := by
  let u := ((s.setLatch .fault).raise (.driveFaulted kind code)).brake
  have hu : Keeps c s u := ((Keeps.setLatch _ _).trans (Keeps.raise _ _)).trans
    (Keeps.pushDown _ fun _ => by simpa using fun h => hs (.inr h))
  have hcut : Keeps c u (({ u with drv := { u.drv with stopN := false } } : State).emptied.enter .fault) := by
    have hsu : ¬u.trv.state.PowerCut := by simpa [u] using hs
    refine Keeps.of_motion _ _ _ _ rfl (fun _ => ?_) (fun hrun _ hd => ?_) fun _ _ _ hl => absurd (.inr hl) hsu
    · exact State.motionOk_of_still rfl rfl (by simp [State.withMotion]) rfl (by simp [State.withMotion])
        rfl rfl rfl rfl (by simp [State.withMotion]) (by simp [State.withMotion]) (by simp [State.withMotion])
    · obtain ⟨-, hpower, hresp, -, -, hrest⟩ := hd
      have hper : u.drv.period.isSome = true := (hpower hrun).2.mpr fun h => hsu (.inr h)
      have hrun' : s.phase ≠ .startUp := by
        rw [← hu.phase, hrun]; decide
      have hdrv : u.drv = s.drv := by simp [u]
      rw [hdrv] at hper
      simp only [State.DriveOk, State.withMotion, State.emptied, hdrv] at hresp hrest ⊢
      refine ⟨fun h => absurd (hrun.symm.trans h) (by decide), fun _ => ?_, ?_, fun _ => ?_, by simp, ?_⟩ <;>
        split <;> simp_all
  exact ((hu.trans hcut).trans (Keeps.raiseAll _ _)).trans (Keeps.raiseDockFailed _ _ _)

theorem Keeps.enterLocked (kind : FaultKind) (hs : ¬s.trv.state.PowerCut) (hfault : s.drv.fault.isSome = true) :
    Keeps c s (s.enterLocked kind) := by
  let u := ((s.setLatch .fault).raise (.locked kind)).brake
  let d : DriveExchange := { u.drv with
    stopN := false, guard := none, period := none, response := none, phase := .clear }
  have hu : Keeps c s u := ((Keeps.setLatch _ _).trans (Keeps.raise _ _)).trans
    (Keeps.pushDown _ fun _ => by simpa using fun h => hs (.inr h))
  have hcut : Keeps c u (({ u with drv := d } : State).emptied.enter .locked) := by
    have hsu : ¬u.trv.state.PowerCut := by simpa [u] using hs
    refine Keeps.of_motion _ _ _ _ rfl (fun _ => ?_) (fun hrun _ hd => ?_) fun _ _ _ hl => absurd (.inr hl) hsu
    · exact State.motionOk_of_still rfl rfl (by simp [State.withMotion]) rfl (by simp [State.withMotion])
        rfl rfl rfl rfl (by simp [State.withMotion]) (by simp [State.withMotion]) (by simp [State.withMotion])
    · obtain ⟨-, -, -, -, -, hrest⟩ := hd
      have hdrv : u.drv = s.drv := by simp [u]
      simp only [State.DriveOk, State.withMotion, State.emptied, d, hdrv] at hrest ⊢
      refine ⟨fun h => absurd (hrun.symm.trans h) (by decide), fun _ => ?_, ?_, fun _ => ?_, ?_, ?_⟩ <;>
        split <;> simp_all
  exact ((hu.trans hcut).trans (Keeps.raiseAll _ _)).trans (Keeps.raiseDockFailed _ _ _)

theorem Keeps.driveFault (kind : FaultKind) (code : Nat) (s : State) : Keeps c s (s.driveFault kind code) := by
  rcases s.driveFault_cases kind code with ⟨-, h⟩ | ⟨hf, hl, h⟩
  · rw [h]; exact Keeps.refl c s
  have hs : ¬s.trv.state.PowerCut := fun h => h.elim hf hl
  have hnamed : Keeps c s { s with drv := { s.drv with fault := some kind, faultCode := code } } :=
    Keeps.of_drv _ fun hrun hd => hd.of_exchange hrun hl _ rfl rfl hd.response_iff rfl (fun _ => rfl)
      hd.nextTag_lt hd.exTag_lt hd.misses_le hd.waits_le
  rcases h with ⟨-, h⟩ | ⟨hg, h⟩ <;> rw [h]
  · exact hnamed.trans (Keeps.enterLocked kind hs rfl)
  · exact hnamed.trans (Keeps.enterFault kind code hs (by simpa using hg) rfl)

/-! ## The drive period (R54, R70, R115, R116) -/

theorem Keeps.beginInterval (h : s.drv.period.isSome = true) : Keeps c s s.beginInterval :=
  Keeps.of_drv _ fun hrun hd => hd.of_exchange hrun (hd.not_locked_of_period hrun h) _ rfl
    (by simp [h]) hd.response_iff rfl id hd.nextTag_lt hd.exTag_lt hd.misses_le hd.waits_le

/-- A computation's record, its DRIVE frame and its held time. -/
theorem Keeps.envelopeEvent (hrun : s.phase = .running) (h : s.drv.period.isSome = true) :
    Keeps c s s.envelopeEvent := by
  let cm := s.computation
  let t : State := { s with env := s.envelopeAfter }
  have henv : Keeps c s t := Keeps.of_env _ fun ht hm he => State.envelopeAfter_ok ht hm.1 he
  have hsent : Keeps c t (t.pushDown (driveFrame s.drv.nextTag cm)) :=
    Keeps.pushDown _ fun hd => hd.not_locked_of_period hrun h
  have hdrv : Keeps c (t.pushDown (driveFrame s.drv.nextTag cm)) (t.sendDrive cm) := by
    refine Keeps.of_drv _ fun hrun hd => hd.of_exchange hrun (hd.not_locked_of_period hrun h) _ rfl rfl ?_ rfl id ?_
      hd.nextTag_lt hd.misses_le hd.waits_le
    · simp
    · exact Nat.mod_lt _ (by decide)
  exact ((henv.trans hsent).trans hdrv).trans (Keeps.judgeHeld _ _)

theorem State.completeActive_period (s : State) :
    s.completeActive.drv.period.isSome = s.drv.period.isSome := by
  rcases s.completeActive_cases with ⟨-, h⟩ | ⟨g, rest, -, h⟩ <;> rw [h]
  have hp (v : Travel) (u : State) : (u.enter v).drv.period.isSome = u.drv.period.isSome := by
    obtain ⟨p, he, hp⟩ := u.enter_sameButInterval v
    rw [he, hp]
  split
  · rw [State.queueEmptied]
    split
    · split
      · rw [State.beginApproach_eq, State.raise_drv]
        exact (hp _ _).trans (by rw [State.raise_drv])
      · rw [hp, State.raise_drv]
    · rw [hp, State.raise_drv]
    · rw [State.raise_drv]
  · rw [State.raise_drv]

theorem State.timeEvent_period (s : State) : s.timeEvent.drv.period.isSome = s.drv.period.isSome := by
  rw [State.timeEvent]
  split
  · rfl
  · dsimp only
    split
    · exact State.completeActive_period _
    · rfl

theorem Keeps.periodEvent (order : PeriodOrder) (hrun : s.phase = .running) (h : s.drv.period.isSome = true) :
    Keeps c s (s.periodEvent order) := by
  have hbegin : Keeps c s s.beginInterval := Keeps.beginInterval h
  cases order with
  | envelopeFirst => exact (hbegin.trans (Keeps.envelopeEvent hrun rfl)).trans (Keeps.timeEvent _)
  | queueFirst =>
    have htime : Keeps c s s.beginInterval.timeEvent := hbegin.trans (Keeps.timeEvent _)
    exact htime.trans (Keeps.envelopeEvent (htime.phase.trans hrun) (s.beginInterval.timeEvent_period))

/-! ## ODOM (R117, R118) -/

theorem Keeps.handOn (st : OdomStep) (s : State) : Keeps c s (s.handOn st) :=
  (Keeps.backoffProgress st s).trans (Keeps.segmentProgress st _)

theorem Keeps.takeHandover (left right : Nat) (ready : Bool) (h : s.DriveOk → s.trv.state ≠ .locked) :
    Keeps c s (s.takeHandover left right ready) := by
  rw [State.takeHandover]
  split
  next => exact Keeps.of_pose _ (fun _ hp => hp) fun hd hl => absurd hl (h hd)
  next base hbase =>
    have hpose : Keeps c s { s with pose := (s.handover left right base ready).pose } :=
      Keeps.of_pose _ (fun hp hok => State.handover_poseOk hp hok left right base ready)
        fun hd hl => absurd hl (h hd)
    have hlatch (u : State) (b : Bool) : Keeps c u (if b then u.setLatch .odomLoss else u) := by
      cases b
      · exact Keeps.refl c u
      · exact Keeps.setLatch _ u
    have hraised := (hpose.trans (hlatch _ (s.handover left right base ready).odomLoss)).trans
      (Keeps.raiseAll (s.handover left right base ready).events _)
    dsimp only
    split
    next => exact hraised
    next st _ => exact hraised.trans (Keeps.handOn st _)

theorem Keeps.of_waits (n : Nat) (hn : n ≤ 65535) (s : State) :
    Keeps c s { s with drv := { s.drv with waits := n } } :=
  Keeps.of_drv _ fun _ ⟨h1, h2, h3, h4, h5, h6, h7, h8, _⟩ => ⟨h1, h2, h3, h4, h5, h6, h7, h8, hn⟩

theorem Keeps.actOnStatus (f : OdomFields) (s : State) : Keeps c s (s.actOnStatus f) := by
  rw [State.actOnStatus]
  split
  next => exact Keeps.of_waits 0 (Nat.zero_le _) s
  next =>
    have hwait := Keeps.of_waits (c := c) (saturate 65535 s.drv.waits 1) (Nat.min_le_right _ _) s
    dsimp only
    split
    · exact hwait.trans (Keeps.driveFault _ _ _)
    · exact hwait
  next => exact Keeps.driveFault _ _ _

theorem Keeps.takeAnswer (f : OdomFields) (h : s.drv.phase = .outstanding) : Keeps c s (s.takeAnswer f) := by
  have hdone : Keeps c s { s with drv := { s.drv with response := none, phase := .answered, misses := 0 } } :=
    Keeps.of_drv _ fun hrun hd => hd.of_exchange hrun (hd.not_locked_of_phase (by simp [h])) _ rfl rfl (by simp)
      rfl id hd.nextTag_lt hd.exTag_lt (Nat.zero_le _) hd.waits_le
  exact (hdone.trans (Keeps.takeHandover _ _ _ fun hd => hd.not_locked_of_phase (by simp))).trans
    (Keeps.actOnStatus f _)

theorem DriveExchange.classify_answer {d : DriveExchange} {tag : Nat} (h : d.classify tag = .answer) :
    d.phase = .outstanding ∧ tag = d.exTag := by
  cases hp : d.phase <;> simp only [DriveExchange.classify, hp] at h
  case outstanding => exact ⟨rfl, by by_contra hne; simp [hne] at h⟩
  case missed => split at h <;> cases h
  all_goals cases h

theorem Keeps.takeOdom (f : OdomFields) (s : State) : Keeps c s (s.takeOdom f) := by
  rw [State.takeOdom]
  split
  next h => exact Keeps.takeAnswer f (DriveExchange.classify_answer h).1
  next => exact Keeps.count _ _ s
  next => exact Keeps.count _ _ s

/-! ## Misses (R119) -/

theorem Keeps.miss (h : s.drv.response.isSome = true) : Keeps c s s.miss := by
  have hmissed : Keeps c s { s with drv := { s.drv with
      phase := .missed, response := none, misses := saturate 255 s.drv.misses 1 } } :=
    Keeps.of_drv _ fun hrun hd => hd.of_exchange hrun (hd.not_locked_of_response h) _ rfl rfl (by simp) rfl id
      hd.nextTag_lt hd.exTag_lt (Nat.min_le_right _ _) hd.waits_le
  have hcounted := (hmissed.trans (Keeps.count .driveTimeout 1 _)).trans (Keeps.setLatch .driveTimeout _)
  rw [State.miss]
  dsimp only
  split
  · exact hcounted.trans (Keeps.driveFault _ _ _)
  · exact hcounted

theorem Keeps.guardEnds (s : State) : Keeps c s { s with drv := { s.drv with guard := none } } :=
  Keeps.of_drv _ fun _ ⟨h1, h2, h3, h4, h5, hrest⟩ => ⟨h1, h2, h3, fun hc => ⟨rfl, (h4 hc).2⟩, h5, hrest⟩

end

end Sys2Proof.Machine
end

-- ==== Proofs: sensing, tiles and saves keep every invariant ====
section
/-! The stages of a SENSE frame, the tile writes and the save list (R10, R95 to R109, R149 to R157). -/

namespace Sys2Proof.Machine

section

variable {c : Instr} {s t : State}

/-! ## Tile writes (R4, R10, R102) -/

theorem Memory.read_zero_or_mem (m : Memory) (a : Nat) : m.read a = 0 ∨ (a, m.read a) ∈ m :=
  tableGet_mem a m

theorem TileMap.tile_ok {m : TileMap} (h : m.Ok) (tx ty : Nat) : tileRecordOk (m.tile tx ty) = true := by
  have hall := h.2
  rw [TileMap.tile]
  generalize tileAddress tx ty = a
  rcases Memory.read_zero_or_mem m.tiles a with h0 | hmem
  · rw [h0]; decide
  · exact hall (a, m.tiles.read a) hmem

/-- A written tile keeps the guard where its new record keeps the mark of the old one. -/
theorem TileMap.writeTile_guardedBy {m : TileMap} (h : m.Ok) (tx ty : Nat) (b : Byte)
    (hb : tileObserved (m.tile tx ty) = true →
      tileObserved b = true ∧ tileCount (m.tile tx ty) ≤ tileCount b) : m.GuardedBy (m.writeTile tx ty b) := by
  intro x y _ _ ho
  by_cases ha : tileAddress x y = tileAddress tx ty
  · have hold : m.tile x y = m.tile tx ty := by rw [TileMap.tile, TileMap.tile, ha]
    have hnew : (m.writeTile tx ty b).tile x y = b := by
      rw [TileMap.tile, ha]; exact TileMap.tile_writeTile_same h tx ty b
    rw [hold] at ho ⊢
    rw [hnew]
    exact hb ho
  · have hnew : (m.writeTile tx ty b).tile x y = m.tile x y := Memory.read_write_other _ ha b
    rw [hnew]
    exact ⟨ho, le_rfl⟩

theorem markedTile_ok : ∀ old : Byte, tileRecordOk (markedTile old) = true ∧ tileObserved (markedTile old) = true ∧
    (tileRecordOk old = true → tileObserved old = true → tileCount old ≤ tileCount (markedTile old)) := by
  decide +kernel

/-- A write of a request's tile: the map stays well-formed, and without override the marks stand. -/
theorem TileTally.write_keeps (t : TileTally) (override : Bool) (tx ty : Nat) (k : ClassNo) :
    let u := t.write override tx ty k
    (t.map.Ok → u.map.Ok) ∧ u.map.classes = t.map.classes ∧
      (override = false → t.map.Ok → t.map.GuardedBy u.map) := by
  dsimp only
  rw [TileTally.write]
  split
  next => exact ⟨id, rfl, fun _ _ => .refl _⟩
  next => exact ⟨id, rfl, fun _ _ => .refl _⟩
  next hchanged =>
    refine ⟨fun h => TileMap.writeTile_ok h tx ty (loadedTile_ok k), rfl, fun ho h => ?_⟩
    refine TileMap.writeTile_guardedBy h tx ty _ fun hobs => ?_
    have hobs' : tileObserved (t.map.tiles.read (tileAddress tx ty)) = true := hobs
    simp [tileOutcome, hobs', ho] at hchanged

theorem TileTally.foldl_write_keeps {α : Type} (override : Bool) (place : α → Nat × Nat) (k : α → ClassNo)
    (l : List α) : ∀ t : TileTally,
    let u := l.foldl (fun t a => t.write override (place a).1 (place a).2 (k a)) t
    (t.map.Ok → u.map.Ok) ∧ u.map.classes = t.map.classes ∧
      (override = false → t.map.Ok → t.map.GuardedBy u.map) := by
  induction l with
  | nil => exact fun t => ⟨id, rfl, fun _ _ => .refl _⟩
  | cons a l ih =>
    intro t
    obtain ⟨h1, h2, h3⟩ := t.write_keeps override (place a).1 (place a).2 (k a)
    obtain ⟨k1, k2, k3⟩ := ih (t.write override (place a).1 (place a).2 (k a))
    exact ⟨k1 ∘ h1, k2.trans h2, fun ho hm => (h3 ho hm).trans (k3 ho (h1 hm))⟩

theorem Keeps.of_tiles (m : TileMap) (hok : s.map.Ok → m.Ok) (hcls : m.classes = s.map.classes)
    (htiles : ¬OverridesTiles c → s.map.Ok → s.map.GuardedBy m) : Keeps c s { s with map := m } :=
  Keeps.of_map m hok (by simp only [TileMap.ClassesOk, TileMap.record, hcls]; exact id) htiles

/-! ## The save list (R149, R151, R153) -/

/-- The store but for an IDLE one that still has a page to save. -/
def MapStore.Listed (st : MapStore) : Prop :=
  st.list.Nodup ∧ (st.error = true → st.current = none) ∧ (st.failedPage.isSome = true ↔ st.error = true)

theorem State.StoreOk.listed (h : s.StoreOk) : s.store.Listed := ⟨h.1, h.2.1, h.2.2.1⟩

/-- A save starts wherever it may, so no IDLE store keeps a page listed. -/
theorem State.startSave_storeOk (h : s.store.Listed) : s.startSave.StoreOk := by
  obtain ⟨hnodup, herr, hfailed⟩ := h
  rcases s.startSave_cases with ⟨he, hno⟩ | ⟨p, rest, h1, -, h3, he⟩ <;> rw [he]
  · refine ⟨hnodup, herr, hfailed, fun _ h1 h2 => ?_⟩
    rcases hno with h | h | h
    · rw [h1] at h; cases h
    · rw [h2] at h; cases h
    · exact h
  · rw [h3] at hnodup
    refine ⟨(List.nodup_cons.mp hnodup).2, fun h => ?_, hfailed, fun _ _ h => by cases h⟩
    rw [show s.store.error = true from h] at h1; cases h1

/-- The store is replaced, and a save starts where it may. -/
theorem Keeps.startSave_of (st : MapStore)
    (hmem : s.MemoryOk → st.medium.Ok ∧ ∀ x ∈ st.current, x.buffer.Within 256)
    (hst : s.StoreOk → st.Listed) : Keeps c s ({ s with store := st } : State).startSave := by
  have hok := fun h => State.startSave_storeOk (s := { s with store := st }) (hst h)
  rcases ({ s with store := st } : State).startSave_cases with ⟨he, -⟩ | ⟨p, rest, -, -, -, he⟩
  · rw [he] at hok ⊢
    exact Keeps.of_store st s.map.dirty hmem hok
  · rw [he] at hok ⊢
    refine Keeps.of_store _ _ (fun h => ⟨(hmem h).1, ?_⟩) hok
    rintro _ ⟨⟩
    exact pageBytes_within h.1.1.1 p

theorem MapStore.join_listed {st : MapStore} (h : st.Listed) (p : Page) : (st.join p).Listed := by
  obtain ⟨hnodup, hrest⟩ := h
  rw [MapStore.join]
  split
  next => exact ⟨hnodup, hrest⟩
  next hp => exact ⟨hnodup.append (List.nodup_singleton p) (by simpa using hp), hrest⟩

theorem Keeps.markTile (tx ty : Nat) (s : State) : Keeps c s (s.markTile tx ty) := by
  obtain ⟨hok, hobs, hcount⟩ := markedTile_ok (s.map.tile tx ty)
  have hmark : Keeps c s { s with map := s.map.writeTile tx ty (markedTile (s.map.tile tx ty)) } :=
    Keeps.of_tiles _ (fun h => TileMap.writeTile_ok h tx ty hok) rfl fun _ h =>
      TileMap.writeTile_guardedBy h tx ty _ fun ho => ⟨hobs, hcount (TileMap.tile_ok h tx ty) ho⟩
  have hcounted := hmark.trans (Keeps.count .observedMarks 1 _)
  rw [State.markTile]
  split
  · refine hcounted.trans (Keeps.startSave_of _ (fun h => ?_) fun h => MapStore.join_listed h.listed _)
    rw [MapStore.join]
    split <;> exact h.2
  · exact hcounted

theorem Keeps.markPoint (p : Int × Int) (s : State) : Keeps c s (s.markPoint p) := by
  rw [State.markPoint]
  split
  · split
    · exact Keeps.markTile _ _ s
    · exact Keeps.refl c s
  · exact Keeps.refl c s

/-! ## Hazard edges (R100 to R107) -/

theorem Travel.moving_iff (u : Travel) : u.moving = true ↔
    u = .idle ∨ u = .cruise ∨ u = .limp ∨ u = .backoff ∨ u = .approach := by
  cases u <;> simp [Travel.moving]

theorem Travel.not_powerCut_of_moving {u : Travel} (h : u.moving = true) : ¬u.PowerCut := by
  cases u <;> simp_all [Travel.moving]

theorem Keeps.losePose (s : State) : Keeps c s s.losePose := by
  rw [State.losePose]
  split
  · exact Keeps.refl c s
  · exact (Keeps.setQuality _ s).trans (Keeps.raise _ _)

theorem Keeps.wheelDropReaction (s : State) : Keeps c s s.wheelDropReaction := by
  rw [State.wheelDropReaction]
  split
  next h =>
    refine Keeps.halt _ ?_
    rcases Bool.or_eq_true _ _ |>.mp h with h | h
    · exact Travel.not_powerCut_of_moving h
    · rw [show s.trv.state = .docked by simpa using h]; decide
  next => exact Keeps.refl c s

theorem Keeps.wheelDropEdge (side : Nat) (s : State) : Keeps c s (s.wheelDropEdge side) :=
  (((Keeps.setLatch _ _).trans (Keeps.raise _ _)).trans (Keeps.losePose _)).trans (Keeps.wheelDropReaction _)

theorem Keeps.takeSeq (f : SenseFields) (s : State) : Keeps c s (s.takeSeq f) :=
  (Keeps.of_haz { s.haz with loss := some (s.paramNat .senseTimeout), silent := false, lastSeq := some f.seq }
    fun h => h).trans (Keeps.count _ _ _)

theorem Keeps.takeDrops (f : SenseFields) (s : State) : Keeps c s (s.takeDrops f) := by
  have hlevels : Keeps c s { s with haz := { s.haz with dropL := f.dropL, dropR := f.dropR } } :=
    Keeps.of_haz _ fun h => h
  rw [State.takeDrops]
  split
  · exact hlevels.trans (Keeps.wheelDropEdge _ _)
  · exact hlevels

theorem Keeps.cliffReaction (s : State) : Keeps c s s.cliffReaction := by
  rw [State.cliffReaction]
  split
  next h => exact Keeps.halt _ (Travel.not_powerCut_of_moving h)
  next => exact Keeps.refl c s

theorem HazardUnit.setSensor_gates {z : HazardUnit} {d : CliffSensor} (sensor : Sensor)
    (h : z.fl.Ok ∧ z.fr.Ok ∧ z.sl.Ok ∧ z.sr.Ok) (hd : (z.sensor sensor).Ok → d.Ok) :
    (z.setSensor sensor d).fl.Ok ∧ (z.setSensor sensor d).fr.Ok ∧ (z.setSensor sensor d).sl.Ok ∧
      (z.setSensor sensor d).sr.Ok := by
  obtain ⟨h1, h2, h3, h4⟩ := h
  cases sensor
  · exact ⟨hd h1, h2, h3, h4⟩
  · exact ⟨h1, hd h2, h3, h4⟩
  · exact ⟨h1, h2, hd h3, h4⟩
  · exact ⟨h1, h2, h3, hd h4⟩

theorem Keeps.takeCliff (f : SenseFields) (s : State) (sensor : Sensor) : Keeps c s (s.takeCliff f sensor).1 := by
  have hjudged : Keeps c s { s with haz := s.haz.setSensor sensor ((s.haz.sensor sensor).judge (f.reading sensor)
      (s.threshold sensor) (s.releaseLevel sensor)).1 } :=
    Keeps.of_haz _ fun h => HazardUnit.setSensor_gates sensor h fun hk => (CliffSensor.judge_effect _ _ _ _ hk).1
  rw [State.takeCliff]
  split
  · exact (((hjudged.trans (Keeps.setLatch _ _)).trans (Keeps.raise _ _)).trans (Keeps.markPoint _ _)).trans
      (Keeps.cliffReaction _)
  · exact hjudged

theorem Keeps.takeCliffs (f : SenseFields) (s : State) : Keeps c s (s.takeCliffs f).1 :=
  (((Keeps.takeCliff f s .fl).trans (Keeps.takeCliff f _ .fr)).trans (Keeps.takeCliff f _ .sl)).trans
    (Keeps.takeCliff f _ .sr)

theorem Keeps.bumpEdge (edge : Bool) (latch : Latch) (side : Nat) (s : State) :
    Keeps c s (s.bumpEdge edge latch side) := by
  rw [State.bumpEdge]
  split
  · exact (Keeps.setLatch _ _).trans (Keeps.raise _ _)
  · exact Keeps.refl c s

/-- The bump reaction in CRUISE and LIMP, the back-off before the events of the abort. -/
theorem State.abortWhole_startBackoff (reason : AbortReason) (s : State) :
    (s.abortWhole reason).startBackoff .bump =
      (s.emptied.startBackoff .bump).raiseAll (abortEvents s.seg.queue reason) :=
  State.raiseAll_startBackoff _ _ _

theorem Keeps.bumpReaction (s : State) : Keeps c s s.bumpReaction := by
  have hplayed (hs : ¬s.trv.state.PowerCut) :
      Keeps c s (((s.abortWhole .bump).startBackoff .bump).raiseDockFailed s .bump) := by
    rw [State.abortWhole_startBackoff]
    exact ((Keeps.emptied_startBackoff .bump fun _ => hs).trans (Keeps.raiseAll _ _)).trans
      (Keeps.raiseDockFailed _ _ _)
  rw [State.bumpReaction]
  split
  next h => exact hplayed (by rw [h]; decide)
  next h => exact hplayed (by rw [h]; decide)
  next h =>
    split
    · exact (Keeps.startBackoff .bump (fun hm => hm.queue_nil (by simp [h]) (by simp [h]))
        fun _ => by rw [h]; decide).trans (Keeps.raiseDockFailed _ _ _)
    · exact Keeps.refl c s
  next => exact Keeps.refl c s

theorem Keeps.takeBumps (f : SenseFields) (s : State) : Keeps c s (s.takeBumps f).1 := by
  have hlevels : Keeps c s { s with haz := { s.haz with bumpL := f.bumpL, bumpR := f.bumpR } } :=
    Keeps.of_haz _ fun h => h
  have hedges := (hlevels.trans (Keeps.bumpEdge (f.bumpL && !s.haz.bumpL) .bumpL 0 _)).trans
    (Keeps.bumpEdge (f.bumpR && !s.haz.bumpR) .bumpR 1 _)
  rw [State.takeBumps]
  dsimp only
  split
  · exact hedges.trans (Keeps.bumpReaction _)
  · exact hedges

/-! ## Forwarding (R172) -/

theorem State.forwardCount_le (hp : s.ParamsOk) (h : s.rep.fwd ≤ 49) : s.forwardCount.1 ≤ 49 := by
  have hd : (0 : Int) ≤ s.param .forwardDecim ∧ s.param .forwardDecim ≤ 50 := hp.row .forwardDecim
  rw [State.forwardCount, State.paramNat]
  generalize s.param .forwardDecim = d at hd
  split_ifs
  · exact h
  · exact Nat.zero_le _
  · dsimp only; omega

theorem Keeps.forward (f : SenseFields) (flag : Bool) (s : State) : Keeps c s (s.forward f flag) := by
  have hcount : Keeps c s { s with rep := { s.rep with fwd := s.forwardCount.1 } } := by
    refine Keeps.of_rep _ (fun ht ⟨h1, h2, h3, h4, h5, h6, h7⟩ => ?_) fun _ _ => Nat.min_le_left _ _
    exact ⟨h1, h2, h3, h4, h5, State.forwardCount_le ht.1 h6, h7⟩
  rw [State.forward]
  dsimp only
  split
  · exact hcount.trans (Keeps.pushLow _ _ _)
  · exact hcount

theorem Keeps.takeSense (f : SenseFields) (s : State) : Keeps c s (s.takeSense f) :=
  (((((Keeps.takeSeq f s).trans (Keeps.takeDrops f _)).trans (Keeps.takeCliffs f _)).trans
    (Keeps.takeBumps f _)).trans (Keeps.takeDockInputs f _)).trans (Keeps.forward f _ _)

/-! ## The sensor-loss timer (R109) -/

theorem Keeps.sensorLossReaction (s : State) : Keeps c s s.sensorLossReaction := by
  have hreport : Keeps c s s.reportSensorLost := (Keeps.setLatch _ _).trans (Keeps.raise _ _)
  rw [State.sensorLossReaction]
  split
  next h => exact hreport.trans (Keeps.halt _ (by
    simpa [State.reportSensorLost] using Travel.not_powerCut_of_moving h))
  split
  · exact hreport
  · exact Keeps.refl c s

theorem Keeps.sensorLoss (s : State) : Keeps c s s.sensorLoss :=
  ((Keeps.of_haz { s.haz with loss := some (s.paramNat .senseTimeout) } fun h => h).trans
    (Keeps.sensorLossReaction _)).trans (Keeps.of_haz _ fun h => h)

/-! ## The two ends of a save (R155, R156) -/

/-- The dirty flags are part of no invariant. -/
theorem Keeps.saveCompletes {x : CurrentSave} (hx : s.store.current = some x) :
    Keeps c s (s.saveCompletes x) := by
  let t : State := { s with store := { s.store with
    slots := s.store.slots.set x.page .valid
    medium := s.store.medium.put x.page (savedSlot x.buffer) } }
  have hsaved : Keeps c s t := Keeps.of_store t.store s.map.dirty
    (fun h => ⟨Medium.put_ok h.2.1 x.page (h.2.2 x hx), h.2.2⟩) fun h => h
  let u : State := t.raise (.pageSaved x.page)
  have hu : Keeps c s u := hsaved.trans (Keeps.raise _ _)
  have hstore : u.store = t.store := by simp [u]
  have hlisted (h : u.StoreOk) : ({ u.store with current := none } : MapStore).Listed :=
    ⟨h.1, fun _ => rfl, h.2.2.1⟩
  rw [State.saveCompletes]
  dsimp only
  split
  next hnil =>
    refine (hu.trans (Keeps.of_store { u.store with current := none } u.map.dirty
      (fun h => ⟨h.2.1, by simp⟩) fun h => ?_)).trans (Keeps.raise _ _)
    obtain ⟨h1, h2, h3⟩ := hlisted h
    exact ⟨h1, h2, h3, fun _ _ _ => hnil⟩
  next => exact hu.trans (Keeps.startSave_of _ (fun h => ⟨h.2.1, by simp⟩) hlisted)

theorem failedSlot_data_within {buffer : Memory} (h : buffer.Within 256) (step : FailStep) :
    (failedSlot buffer step).data.Within 256 := by
  cases step
  · exact Memory.nil_within _
  · exact Memory.nil_within _
  · exact h

theorem Keeps.saveFails (step : FailStep) {x : CurrentSave} (hx : s.store.current = some x) :
    Keeps c s (s.saveFails step x) := by
  refine (Keeps.of_store _ (s.map.dirty.set x.page true) (fun h => ⟨?_, by simp⟩) fun h => ?_).trans
    (Keeps.raise _ _)
  · exact Medium.put_ok h.2.1 x.page (failedSlot_data_within (h.2.2 x hx) step)
  · exact ⟨h.1, fun _ => rfl, by simp, fun _ he => by cases he⟩

end

end Sys2Proof.Machine
end

-- ==== Proofs: the loads and the management requests keep every invariant ====
section
/-! The owners' handling of the loads, of a correction, and of CONFIG, MASK, ACK, SAVE, STORE_CLEAR and the queries. -/

namespace Sys2Proof.Machine

section

variable {c : Instr} {s : State}

/-! ## TILE_FILL and TILE_RUN (R10 to R16) -/

theorem Keeps.tileFillAct (f : FillFields) (s : State) (h : ¬OverridesTiles c → f.override ≠ 1) :
    Keeps c s (tileFillAct f s).1 := by
  rw [Machine.tileFillAct]
  split
  · exact Keeps.refl c s
  · obtain ⟨hok, hcls, hguard⟩ := TileTally.foldl_write_keeps (decide (f.override = 1)) (fun tile : Nat × Nat => tile)
      (fun _ => classNo f.cls) f.tiles ⟨s.map, 0, 0⟩
    exact Keeps.of_tiles _ hok hcls fun ho hm => hguard (decide_eq_false (h ho)) hm

theorem Keeps.tileRunAct (f : RunFields) (s : State) (h : ¬OverridesTiles c → f.override ≠ 1) :
    Keeps c s (tileRunAct f s).1 := by
  rw [Machine.tileRunAct]
  split
  · exact Keeps.refl c s
  · obtain ⟨hok, hcls, hguard⟩ := TileTally.foldl_write_keeps (decide (f.override = 1))
      (fun e : Nat × Nat => (e.1, f.ty)) (fun e => classNo e.2) f.placed ⟨s.map, 0, 0⟩
    exact Keeps.of_tiles _ hok hcls fun ho hm => hguard (decide_eq_false (h ho)) hm

/-! ## CLASS and BEACON (R18, R19, R139) -/

theorem Vector.forall_mem_set {α : Type} {n : Nat} {v : Vector α n} {P : α → Prop} (h : ∀ x ∈ v.toList, P x)
    {i : Nat} (hi : i < n) {y : α} (hy : P y) : ∀ x ∈ (v.set i y hi).toList, P x := by
  intro x hx
  rw [Vector.toList_set] at hx
  rcases List.mem_or_eq_of_mem_set hx with hx | rfl
  · exact h x hx
  · exact hy

theorem ClassFields.record_blocks (f : ClassFields) (h : alwaysBlocks (classNo f.cls) = true) :
    f.record.blocks = true := by simp [ClassFields.record, h]

/-- The record of a class after the table took another one. -/
theorem TileMap.record_set (m : TileMap) (i k : ClassNo) (r : ClassRecord) :
    ({ m with classes := m.classes.set i r } : TileMap).record k = if i = k then r else m.record k := by
  split
  next h => subst h; simp [TileMap.record]
  next h => exact Vector.getElem_set_ne i.isLt k.isLt fun h' => h (Fin.ext h')

theorem Keeps.classAct (f : ClassFields) (s : State) : Keeps c s (classAct f s).1 := by
  rw [Machine.classAct]
  split
  · exact Keeps.refl c s
  · refine Keeps.of_map _ id (fun ⟨hrange, hcliff, hdock⟩ => ⟨?_, ?_, ?_⟩) fun _ _ => TileMap.GuardedBy.refl _
    · exact Vector.forall_mem_set hrange (classNo f.cls).isLt ⟨Nat.min_le_right _ _, Nat.min_le_right _ _⟩
    · rw [TileMap.record_set]
      split
      next h => exact f.record_blocks (by rw [h]; rfl)
      next => exact hcliff
    · rw [TileMap.record_set]
      split
      next h => exact f.record_blocks (by rw [h]; rfl)
      next => exact hdock

theorem BeaconFields.entry_range (f : BeaconFields) :
    -100 ≤ f.entry.v ∧ f.entry.v ≤ 150 ∧ -1500 ≤ f.entry.w ∧ f.entry.w ≤ 1500 := by
  simp only [BeaconFields.entry, clampInt_eq (by decide : (-100 : Int) ≤ 150),
    clampInt_eq (by decide : (-1500 : Int) ≤ 1500)]
  omega

theorem Keeps.beaconAct (f : BeaconFields) (s : State) : Keeps c s (beaconAct f s).1 := by
  rw [Machine.beaconAct]
  split
  · exact Keeps.refl c s
  · exact Keeps.of_beacon _ fun h => Vector.forall_mem_set h (beaconIndex f.left f.right).isLt f.entry_range

/-! ## POSE (R38) -/

theorem PoseFields.onMap_of_accepted {f : PoseFields} {u : Travel} (h : f.refusal u = none) :
    onMap f.x = true ∧ onMap f.y = true := by
  rw [PoseFields.refusal] at h
  split at h
  · cases h
  split at h
  · cases h
  next hmap => simpa using hmap

/-- The quality a correction sets. -/
def PoseFields.newQuality (f : PoseFields) : Quality := if f.quality = 2 then .good else .degraded

/-- The pose a correction gives. -/
def State.corrected (f : PoseFields) (s : State) : State :=
  { s with pose := { s.pose with x := f.x, y := f.y, h := f.h, quality := f.newQuality } }

theorem poseAct_refused {f : PoseFields} {r : ReplyCode} (h : f.refusal s.trv.state = some r) :
    poseAct f s = (s, ⟨r, s.pose.data⟩) := by
  simp only [poseAct, h]

theorem poseAct_accepted {f : PoseFields} (h : f.refusal s.trv.state = none) :
    poseAct f s = (if s.pose.quality.number < f.newQuality.number then (s.corrected f).raise .poseRestored
      else s.corrected f, ⟨.ok, s.pose.data⟩) := by
  simp only [poseAct, h]
  rfl

theorem Keeps.corrected {f : PoseFields} (hh : f.h < 65536) (hs : s.trv.state ≠ .locked)
    (haccepted : f.refusal s.trv.state = none) : Keeps c s (s.corrected f) := by
  refine Keeps.of_pose _ (fun _ ⟨_, _, _, _, _, hstall⟩ => ?_) fun _ hl => absurd hl hs
  obtain ⟨hx, hy⟩ := PoseFields.onMap_of_accepted haccepted
  simp only [onMap, Bool.and_eq_true, decide_eq_true_eq] at hx hy
  exact ⟨hx.1, hx.2, hy.1, hy.2, hh, hstall⟩

theorem Keeps.poseAct {f : PoseFields} (hh : f.h < 65536) (hs : s.trv.state ≠ .locked) :
    Keeps c s (poseAct f s).1 := by
  cases haccepted : f.refusal s.trv.state with
  | some r => rw [poseAct_refused haccepted]; exact Keeps.refl c s
  | none =>
    have hset : Keeps c s (s.corrected f) := Keeps.corrected hh hs haccepted
    rw [poseAct_accepted haccepted]
    dsimp only
    split
    · exact hset.trans (Keeps.raise _ _)
    · exact hset

/-! ## CONFIG (R182) -/

theorem Keeps.of_params (p : Params) (hp : s.ParamsOk → ({ s with params := p } : State).ParamsOk) :
    Keeps c s { s with params := p } where
  __ := Keeps.refl c s
  tables := fun ⟨h, hrest⟩ => ⟨hp h, hrest⟩

theorem paramTable_row : ∀ r ∈ paramTable, r.param.row = r ∧ r.lo ≤ r.hi := by decide

/-- The part with one parameter set. -/
def State.setParam (p : Param) (v : Int) (s : State) : State := { s with params := s.params.set p.index v }

theorem Param.index_inj {p q : Param} (h : p.index = q.index) : p = q := by
  have hrow : p.row.param = q.row.param := by
    cases p <;> cases q <;> first | rfl | cases h
  rwa [p.row_mem.2, q.row_mem.2] at hrow

theorem State.param_setParam (p q : Param) (v : Int) (s : State) :
    (s.setParam p v).param q = if p = q then v else s.param q := by
  split
  next h => subst h; simp [State.setParam, State.param]
  next h =>
    exact Vector.getElem_set_ne p.index.isLt q.index.isLt fun h' => h (Param.index_inj (Fin.ext h'))

/-- What CONFIG stores lies in its row's range, REST_PERIOD on a multiple of 10. -/
theorem Param.stored_range (p : Param) (value : Int) :
    p.row.lo ≤ p.stored value ∧ p.stored value ≤ p.row.hi ∧ (p = .restPeriod → p.stored value % 10 = 0) := by
  have hle : p.row.lo ≤ p.row.hi := (paramTable_row p.row p.row_mem.1).2
  rw [Param.stored, clampInt_eq hle]
  split
  next h =>
    subst h
    rw [show Param.restPeriod.row.lo = 20 from rfl, show Param.restPeriod.row.hi = 500 from rfl]
    omega
  next h => exact ⟨by omega, by omega, fun h' => absurd h' h⟩

theorem State.setParam_paramsOk (p : Param) (value : Int) (h : s.ParamsOk) :
    (s.setParam p (p.stored value)).ParamsOk := by
  obtain ⟨hlo, hhi, hrest⟩ := p.stored_range value
  refine ⟨fun r hr => ?_, ?_⟩
  · rw [State.param_setParam]
    split
    next heq =>
      have hrow : p.row = r := by rw [heq]; exact (paramTable_row r hr).1
      exact ⟨hrow ▸ hlo, hrow ▸ hhi⟩
    next => exact h.1 r hr
  · rw [State.param_setParam]
    split
    next heq => exact hrest heq
    next => exact h.2

theorem Keeps.configured (p : Param) (s : State) : Keeps c s (State.configured p s) := by
  cases p
  case telePeriod =>
    rw [State.configured]
    split
    · exact Keeps.of_tele _ s
    · exact Keeps.refl c s
  case forwardDecim =>
    refine Keeps.of_rep _ (fun _ ⟨h1, h2, h3, h4, h5, _, h7⟩ => ?_) fun _ _ => Nat.min_le_left _ _
    exact ⟨h1, h2, h3, h4, h5, Nat.zero_le _, h7⟩
  all_goals exact Keeps.refl c s

theorem Keeps.configAct (id : Byte) (value : Int) (s : State) : Keeps c s (configAct id value s).1 := by
  rw [Machine.configAct]
  split
  next => exact Keeps.refl c s
  next p _ =>
    split
    · exact Keeps.refl c s
    · exact (Keeps.of_params _ (State.setParam_paramsOk p value)).trans (Keeps.configured p _)

/-! ## MASK and ACK (R166, R167, R169) -/

/-- Pending records released, after a change of the output queue or of the masks. -/
theorem Keeps.released (p : LinkPorts) (r : ReportUnit) (htx : p.dTx = s.port.dTx)
    (hc : r.counters = s.rep.counters)
    (hb : s.ReportsOk → ({ s with port := p, rep := r } : State).ReportsBounded) :
    Keeps c s ({ s with port := p, rep := r } : State).release := by
  have k : ∀ (out : List Frame) (held : Vector (Option Held) 8),
      (s.ReportsOk → ({ s with
        port := { p with out := out }, rep := { r with held := held } } : State).ReportsOk) →
      Keeps c s { s with port := { p with out := out }, rep := { r with held := held } } := fun out held hk =>
    { Keeps.refl c s with
      reports := fun _ => hk
      locked := fun _ _ _ h => ⟨h, rfl, htx⟩
      counters := fun _ i => by rw [hc]; exact Nat.min_le_left _ _ }
  let x : State := { s with port := p, rep := r }
  have hx : x.release = { s with
      port := { p with out := x.release.port.out }, rep := { r with held := x.release.rep.held } } :=
    x.release_onlyReports
  have hk := k x.release.port.out x.release.rep.held
  rw [← hx] at hk
  exact hk fun h => State.release_reportsOk (hb h)

theorem Keeps.maskAct (masks : Byte) (enable : Nat) (s : State) : Keeps c s (maskAct masks enable s).1 := by
  rw [Machine.maskAct]
  split
  · exact Keeps.refl c s
  dsimp only
  split
  next =>
    refine Keeps.of_rep _ (fun _ ⟨h1, _, _, _, h5⟩ => ?_) fun _ _ => Nat.min_le_left _ _
    exact ⟨h1, by simp, by simp, by simp, h5⟩
  next h1 h0 =>
    refine Keeps.released s.port _ rfl rfl fun ⟨hlen, _, hcount, _, hrest⟩ => ?_
    refine ⟨hlen, fun hoff => ?_, hcount, hrest⟩
    have : enable = 1 := by omega
    simp [this] at hoff

theorem Keeps.ackAct (named : BitVec 16) (s : State) : Keeps c s (ackAct named s).1 := by
  rw [Machine.ackAct]
  split
  · exact Keeps.refl c s
  · exact Keeps.of_rep _ (fun _ h => h) fun _ _ => Nat.min_le_left _ _

/-! ## SAVE and STORE_CLEAR (R152, R157) -/

theorem TileMap.nodup_dirtyPages (m : TileMap) : m.dirtyPages.Nodup := (List.nodup_finRange 256).filter _

theorem State.saveAdds_nodup (mode : Nat) (page : Page) (s : State) :
    (s.saveAdds mode page).Nodup ∧ ∀ p ∈ s.saveAdds mode page, p ∉ s.store.list := by
  refine ⟨List.Nodup.filter _ ?_, fun p hp => by simpa using (List.mem_filter.mp hp).2⟩
  split
  · exact List.nodup_singleton page
  · exact s.map.nodup_dirtyPages

theorem Keeps.saveAct (mode : Nat) (page : Page) (s : State) : Keeps c s (saveAct mode page s).1 := by
  rw [Machine.saveAct]
  split
  · exact Keeps.refl c s
  split
  · exact Keeps.refl c s
  obtain ⟨hadds, hnew⟩ := s.saveAdds_nodup mode page
  refine Keeps.startSave_of _ (fun h => h.2) fun h => ?_
  obtain ⟨hnodup, hrest⟩ := h.listed
  exact ⟨hnodup.append hadds fun p hp hp' => hnew p hp' hp, hrest⟩

theorem MapStore.retryFirst_nodup {st : MapStore} (h : st.list.Nodup) : st.retryFirst.Nodup := by
  rw [MapStore.retryFirst]
  split
  · exact h
  · exact List.nodup_cons.mpr ⟨by simp, h.filter _⟩

theorem Keeps.cleared (cancel : Bool) (s : State) : Keeps c s (s.cleared cancel) := by
  rw [State.cleared]
  split
  · refine Keeps.startSave_of _ (fun h => h.2) fun h => ⟨?_, by simp, by simp⟩
    cases cancel
    · exact MapStore.retryFirst_nodup h.1
    · exact List.nodup_nil
  split
  · refine Keeps.of_store _ s.map.dirty (fun h => h.2) fun ⟨_, herr, hfailed, _⟩ => ?_
    exact ⟨List.nodup_nil, herr, hfailed, fun _ _ _ => rfl⟩
  · exact Keeps.refl c s

theorem Keeps.storeClearAct (cancel : Nat) (s : State) : Keeps c s (storeClearAct cancel s).1 := by
  rw [Machine.storeClearAct]
  split
  · exact Keeps.refl c s
  · exact Keeps.cleared _ s

/-! ## Queries (R174, R183) -/

theorem Keeps.tilesAct (r : Rect) (s : State) : Keeps c s (tilesAct r s).1 := by
  rw [Machine.tilesAct]
  split <;> exact Keeps.refl c s

theorem Keeps.parameterAct (id : Byte) (s : State) : Keeps c s (parameterAct id s).1 := by
  rw [Machine.parameterAct]
  split <;> exact Keeps.refl c s

theorem Keeps.pagesAct (part : Nat) (s : State) : Keeps c s (pagesAct part s).1 := by
  rw [Machine.pagesAct]
  split <;> exact Keeps.refl c s

/-- The counters fall only at a clear. -/
theorem Keeps.countersAct (clear : Nat) (s : State) (h : clear = 1 → ClearsCounters c) :
    Keeps c s (countersAct clear s).1 := by
  rw [Machine.countersAct]
  split
  · exact Keeps.refl c s
  dsimp only
  split
  next hclear =>
    refine Keeps.of_rep _ (fun _ ⟨h1, h2, h3, h4, _, h6⟩ => ?_) fun hno => absurd (h hclear) hno
    exact ⟨h1, h2, h3, h4, by simp, h6⟩
  next => exact Keeps.refl c s

end

end Sys2Proof.Machine
end

-- ==== Proofs: every command of a running part keeps every invariant ====
section
/-! The ports, the lines and the timers, and with them every command but a reset of the part, the end of start-up and
a loss of supply. -/

namespace Sys2Proof.Machine

section

variable {c : Instr} {s : State}

/-! ## The commands that carry an N-link frame (R178, R180) -/

/-- The N-link frame a command carries: its kind and its payload. -/
def nFrameOf : Instr → Option (Byte × List Byte)
  | .move p => some (NKind.move.code, p)
  | .keep p => some (NKind.keep.code, p)
  | .resume p => some (NKind.resume.code, p)
  | .dock p => some (NKind.dock.code, p)
  | .undock p => some (NKind.undock.code, p)
  | .pose p => some (NKind.pose.code, p)
  | .tileFill p => some (NKind.tileFill.code, p)
  | .tileRun p => some (NKind.tileRun.code, p)
  | .classRecord p => some (NKind.classRecord.code, p)
  | .beacon p => some (NKind.beacon.code, p)
  | .config p => some (NKind.config.code, p)
  | .mask p => some (NKind.mask.code, p)
  | .ack p => some (NKind.ack.code, p)
  | .save p => some (NKind.save.code, p)
  | .storeClear p => some (NKind.storeClear.code, p)
  | .reset p => some (NKind.reset.code, p)
  | .queryStatus req args => some (NKind.query.code, queryPayload req 0 args)
  | .querySegments req args => some (NKind.query.code, queryPayload req 1 args)
  | .queryTiles req args => some (NKind.query.code, queryPayload req 2 args)
  | .queryClass req args => some (NKind.query.code, queryPayload req 3 args)
  | .queryBeacon req args => some (NKind.query.code, queryPayload req 4 args)
  | .queryConfig req args => some (NKind.query.code, queryPayload req 5 args)
  | .queryPages req args => some (NKind.query.code, queryPayload req 6 args)
  | .queryCounters req args => some (NKind.query.code, queryPayload req 7 args)
  | .unknownKind k p => some (k, p)
  | .wrongKindFrame .n k p => some (k, p)
  | _ => none

/-- Whichever row carries a frame, the N-link port takes it. -/
theorem exec_nFrame {kind : Byte} {payload : List Byte} (h : nFrameOf c = some (kind, payload)) (s : State) :
    exec c s = .next (s.takeNLink kind payload) := by
  cases c
  case wrongKindFrame link k p => cases link <;> cases h; rfl
  all_goals cases h <;> rfl

theorem NKind.code_of_ofByte {b : Byte} {k : NKind} (h : NKind.ofByte b = some k) : b = k.code := by
  have := List.find?_some h
  exact (by simpa using this : k.code = b).symm

/-- A tile request that overrides is one of the commands that may. -/
theorem overridesTiles_of_nFrame {kind : Byte} {payload : List Byte} (h : nFrameOf c = some (kind, payload))
    (hk : kind = NKind.tileFill.code ∧ byteAt payload 6 = 1 ∨ kind = NKind.tileRun.code ∧ byteAt payload 3 = 1) :
    OverridesTiles c := by
  cases c
  case tileFill p =>
    obtain ⟨rfl, rfl⟩ : NKind.tileFill.code = kind ∧ p = payload := by simpa [nFrameOf] using h
    rcases hk with ⟨-, hk⟩ | ⟨hk, -⟩
    · exact .inl ⟨p, rfl, hk⟩
    · cases hk
  case tileRun p =>
    obtain ⟨rfl, rfl⟩ : NKind.tileRun.code = kind ∧ p = payload := by simpa [nFrameOf] using h
    rcases hk with ⟨hk, -⟩ | ⟨-, hk⟩
    · cases hk
    · exact .inr (.inl ⟨p, rfl, hk⟩)
  case unknownKind k p =>
    obtain ⟨rfl, rfl⟩ : k = kind ∧ p = payload := by simpa [nFrameOf] using h
    exact .inr (.inr ⟨k, p, .inl rfl, hk⟩)
  case wrongKindFrame link k p =>
    cases link <;> simp only [nFrameOf, Option.some.injEq, Prod.mk.injEq, reduceCtorEq] at h
    obtain ⟨rfl, rfl⟩ := h
    exact .inr (.inr ⟨k, p, .inr rfl, hk⟩)
  all_goals cases h <;> rcases hk with ⟨hk, -⟩ | ⟨hk, -⟩ <;> cases hk

/-- A QUERY COUNTERS with clear is one of the commands that clear. -/
theorem clearsCounters_of_nFrame {req : Byte} (h : nFrameOf c = some (NKind.query.code, [req, 7, 1])) :
    ClearsCounters c := by
  cases c
  case queryCounters r args =>
    obtain ⟨rfl, rfl⟩ : r = req ∧ args = [1] := by simpa [nFrameOf, queryPayload, carry8] using h
    exact ⟨r, .inl rfl⟩
  case unknownKind k p =>
    obtain ⟨rfl, rfl⟩ : k = NKind.query.code ∧ p = [req, 7, 1] := by simpa [nFrameOf] using h
    exact ⟨req, .inr (.inl rfl)⟩
  case wrongKindFrame link k p =>
    cases link <;> simp only [nFrameOf, Option.some.injEq, Prod.mk.injEq, reduceCtorEq] at h
    obtain ⟨rfl, rfl⟩ := h
    exact ⟨req, .inr (.inr rfl)⟩
  all_goals simp [nFrameOf, NKind.code, queryPayload, carry8] at h

/-! ## Requests (R180) -/

/-- A port that hands a request on has found its length allowed and, but for a QUERY, the part unlocked. -/
theorem portRefusal_none {u : Travel} {k : NKind} {payload : List Byte} (h : portRefusal u k payload = none) :
    lengthRefusal k payload = none ∧ (u = .locked → k = .query) := by
  rw [portRefusal] at h
  split at h
  next => cases h
  next hlen =>
    refine ⟨hlen, fun hu => ?_⟩
    by_contra hk
    rw [if_pos ⟨hu, hk⟩] at h
    cases h

/-- A request keeps what its owner's handling keeps. -/
theorem Keeps.takeRequest (k : NKind) (payload : List Byte) (act : State → State × Reply) (s : State)
    (hact : lengthRefusal k payload = none → ∀ t : State, (t.trv.state = .locked → k = .query) →
      Keeps c t (act t).1) : Keeps c s (s.takeRequest k payload act) := by
  have htaken : Keeps c s (s.frameTaken .n payload.length) := Keeps.frameTaken .n _ s
  have hpushed (f : Frame) (hroom : s.queued < 16) : Keeps c s ((s.frameTaken .n payload.length).pushUp f) :=
    htaken.trans (Keeps.pushUp f (by simpa using hroom))
  rcases s.takeRequest_cases k payload act with ⟨-, h⟩ | ⟨-, -, h⟩ | ⟨req, rest, -, -, hcases⟩
  · rw [h]; exact Keeps.refl c s
  · rw [h]; exact htaken.trans (Keeps.count _ _ _)
  rcases hcases with ⟨-, h⟩ | ⟨r, hroom, -, h⟩ | ⟨hroom, hnone, h⟩ <;> rw [h]
  · exact htaken.trans (Keeps.count _ _ _)
  · exact hpushed _ hroom
  · obtain ⟨hlen, hunlocked⟩ := portRefusal_none hnone
    exact (hpushed _ hroom).trans (hact hlen _ (by simpa using hunlocked))

theorem unsignedAt_lt (p : List Byte) (i : Nat) : unsignedAt p i < 65536 := by
  have h1 := (byteAt p i).isLt
  have h2 := (byteAt p (i + 1)).isLt
  simp only [unsignedAt, unsigned16]
  omega

/-- A QUERY COUNTERS of the length its layout gives has one argument byte (R183). -/
theorem queryCounters_payload {payload : List Byte} (hlen : lengthRefusal .query payload = none)
    (hsubject : (payload.getD 1 0).toNat = 7) : ∃ req x, payload = [req, 7, x] := by
  match payload with
  | [] | [_] => cases hsubject
  | req :: subject :: args =>
    obtain rfl : subject = 7 := BitVec.eq_of_toNat_eq hsubject
    match args with
    | [x] => exact ⟨req, x, rfl⟩
    | [] => cases hlen
    | _ :: _ :: args => simp [lengthRefusal, queryArguments] at hlen

/-- A QUERY keeps everything but the counters it clears (R183). -/
theorem Keeps.queryOwner {payload : List Byte} (hlen : lengthRefusal .query payload = none)
    (hclear : ∀ req, payload = [req, 7, 1] → ClearsCounters c) (s : State) :
    Keeps c s (queryOwner payload s).1 := by
  rw [Machine.queryOwner]
  generalize hsubject : (payload.getD 1 0).toNat = n
  match n, hsubject with
  | 0, _ | 1, _ | 3, _ | 4, _ => exact Keeps.refl c s
  | 2, _ => exact Keeps.tilesAct _ s
  | 5, _ => exact Keeps.parameterAct _ s
  | 6, _ => exact Keeps.pagesAct _ s
  | 7, hsubject =>
    refine Keeps.countersAct _ s fun hone => ?_
    obtain ⟨req, x, rfl⟩ := queryCounters_payload hlen hsubject
    have h1 : x = 1 := BitVec.eq_of_toNat_eq hone
    exact hclear req (by rw [h1])
  | _ + 8, _ => exact Keeps.refl c s

/-- The owner of a request keeps everything its kind may not change (the table of owners under R180). -/
theorem Keeps.owner {k : NKind} {payload : List Byte} (hframe : nFrameOf c = some (k.code, payload))
    (hlen : lengthRefusal k payload = none) (s : State) (hs : s.trv.state = .locked → k = .query) :
    Keeps c s (owner payload k s).1 := by
  cases k
  case move => exact Keeps.moveAct (MoveFields.read_extent_le _) (MoveFields.read_tag_le _) s
  case keep => exact Keeps.keepAct _ s
  case resume => exact Keeps.resumeAct s
  case dock => exact Keeps.dockAct s
  case undock => exact Keeps.undockAct s
  case pose => exact Keeps.poseAct (unsignedAt_lt _ _) fun h => by cases hs h
  case tileFill =>
    refine Keeps.tileFillAct _ s fun hno hone => hno (overridesTiles_of_nFrame hframe (.inl ⟨rfl, ?_⟩))
    exact BitVec.eq_of_toNat_eq hone
  case tileRun =>
    refine Keeps.tileRunAct _ s fun hno hone => hno (overridesTiles_of_nFrame hframe (.inr ⟨rfl, ?_⟩))
    exact BitVec.eq_of_toNat_eq hone
  case classRecord => exact Keeps.classAct _ s
  case beacon => exact Keeps.beaconAct _ s
  case config => exact Keeps.configAct _ _ s
  case mask => exact Keeps.maskAct _ _ s
  case ack => exact Keeps.ackAct _ s
  case save => exact Keeps.saveAct _ _ s
  case storeClear => exact Keeps.storeClearAct _ s
  case query =>
    refine Keeps.queryOwner hlen (fun req hp => ?_) s
    exact clearsCounters_of_nFrame (req := req) (by rw [hframe, hp])
  case reset => exact Keeps.refl c s

/-! ## RESET (R185) -/

theorem CliffSensor.softReset_ok (d : CliffSensor) : d.softReset.Ok := by
  intro h
  rw [CliffSensor.softReset] at h ⊢
  by_contra hl
  rw [if_neg hl] at h
  cases h

/-- The part after a soft reset, before the events it raises. -/
def State.softened (req : Byte) (s : State) : State :=
  (({ s with port := { s.port with out := s.port.out.take 1 } } : State).pushUp
    (replyFrame req NKind.reset.code ⟨.ok, []⟩)).softValues

theorem State.softReset_eq (req : Byte) (s : State) :
    s.softReset req = if s.pose.quality = .good then
      ((s.softened req).raise (.start .soft)).raise (.poseDegraded .reset)
    else (s.softened req).raise (.start .soft) := rfl

theorem State.softened_period (req : Byte) (s : State) :
    (s.softened req).drv.period.isSome = s.drv.period.isSome := by
  simp only [State.softened, State.softValues, State.enter_drv, State.pushUp_drv]
  split
  · exact Option.isSome_map
  · rfl

theorem State.softened_exTag (req : Byte) (s : State) : (s.softened req).drv.exTag = s.drv.exTag := by
  simp only [State.softened, State.softValues, State.enter_drv, State.pushUp_drv]
  split <;> rfl

theorem State.softened_motionOk (req : Byte) (s : State) : (s.softened req).MotionOk :=
  have hstate : (s.softened req).trv.state = .idle := rfl
  State.motionOk_of_still rfl rfl (Bool.and_false _) rfl
    ⟨fun h => (by cases h), fun h => by rw [hstate] at h; cases h⟩ rfl rfl rfl rfl
    (by rw [hstate]; decide) (by rw [hstate]; decide) (by rw [hstate]; decide)

theorem State.softened_driveOk (req : Byte) (hrun : s.phase = .running) (hs : s.trv.state ≠ .locked)
    (h : s.DriveOk) : (s.softened req).DriveOk := by
  have hperiod : s.drv.period.isSome = true := (h.2.1 hrun).2.mpr hs
  have hstate : (s.softened req).trv.state = .idle := rfl
  have hphase : (s.softened req).phase = .running := hrun
  refine ⟨fun h' => ?_, fun _ => ⟨?_, ?_⟩, ?_, ?_, ?_, ?_, ?_, Nat.zero_le _, Nat.zero_le _⟩
  · rw [hphase] at h'; cases h'
  · exact ⟨fun h' => (by cases h'), fun h' => by rw [hstate] at h'; simp at h'⟩
  · rw [State.softened_period, hperiod, hstate]; decide
  · exact ⟨fun h' => (by cases h'), fun h' => by cases h'⟩
  · rw [hstate]; simp
  · rw [hstate]; simp
  · exact Nat.zero_lt_succ _
  · rw [State.softened_exTag]; exact h.exTag_lt

theorem Keeps.softened (req : Byte) (hrun : s.phase = .running) (hs : s.trv.state ≠ .locked) :
    Keeps c s (s.softened req) where
  __ := Keeps.refl c s
  motion := fun _ => s.softened_motionOk req
  pose := fun _ _ ⟨⟨h1, h2, h3, h4, h5, _⟩, _⟩ => by
    refine ⟨⟨h1, h2, h3, h4, h5, Nat.zero_le _, Nat.zero_le _⟩, ?_⟩
    rw [State.EnvelopeOk, show (s.softened req).env = .initial from rfl]
    decide
  gates := fun _ => ⟨CliffSensor.softReset_ok _, CliffSensor.softReset_ok _, CliffSensor.softReset_ok _,
    CliffSensor.softReset_ok _⟩
  drive := fun _ _ hd => State.softened_driveOk req hrun hs hd
  reports := by
    intro _ ⟨hlen, _, _, _, hctr, _, htime⟩
    refine ⟨?_, by simp [State.softened, State.softValues], by simp [State.softened, State.softValues],
      by simp [State.softened, State.softValues], hctr, Nat.zero_le _, htime⟩
    simp only [State.softened, State.softValues, State.enter_port, State.pushUp_port, List.length_append, List.length_take, List.length_singleton]
    omega
  locked := fun _ _ _ h => absurd h hs

end

end Sys2Proof.Machine
end

-- ==== Proofs: a command goes one of four ways ====
section
/-! Every command answers a next state that waits for the same commands: an event of a running part keeps every
invariant, and what is left are a reset of the part, the end of start-up and a loss of supply. -/

namespace Sys2Proof.Machine

section

variable {c : Instr} {s t : State}

/-! ## The ports and the lines -/

theorem Keeps.onRunning (f : State → State) (h : s.phase = .running → Keeps c s (f s)) :
    Keeps c s (s.onRunning f) := by
  by_cases hr : s.phase = .running
  · rw [State.onRunning_running f hr]; exact h hr
  · rw [State.onRunning_stopped f hr]; exact Keeps.refl c s

theorem Keeps.takeUnknown (kind : Byte) (payload : List Byte) (s : State) :
    Keeps c s (s.takeUnknown kind payload) := by
  refine Keeps.onRunning _ fun _ => ?_
  have hcounted (k : Counter) : Keeps c s ((s.frameTaken .n payload.length).count k 1) :=
    (Keeps.frameTaken .n _ s).trans (Keeps.count k 1 _)
  cases payload with
  | nil => exact hcounted _
  | cons req rest =>
    dsimp only
    split
    · exact (hcounted _).trans (Keeps.count _ _ _)
    next hroom =>
      rw [State.answer_const]
      exact (hcounted .nKind).trans (Keeps.pushUp _ (by simpa using hroom))

theorem Keeps.softReset (req : Byte) (hrun : s.phase = .running) (hs : s.trv.state ≠ .locked) :
    Keeps c s (s.softReset req) := by
  rw [State.softReset_eq]
  have hsoft := (Keeps.softened (c := c) req hrun hs).trans (Keeps.raise (.start .soft) _)
  split
  · exact hsoft.trans (Keeps.raise _ _)
  · exact hsoft

theorem Keeps.takeReset (payload : List Byte) (s : State) : Keeps c s (s.takeReset payload) := by
  have hrequest (p : List Byte) : Keeps c s (s.takeRequest .reset p fun t => (t, ⟨.ok, []⟩)) :=
    Keeps.takeRequest .reset p _ s fun _ t _ => Keeps.refl c t
  rw [State.takeReset.eq_def]
  split
  next req =>
    split
    next h => exact (Keeps.frameTaken .n 1 s).trans (Keeps.softReset req (by simpa using h.1) (by simpa using h.2))
    next => exact hrequest [req]
  next => exact hrequest payload

theorem Keeps.takeNLink {kind : Byte} {payload : List Byte} (hframe : nFrameOf c = some (kind, payload)) (s : State) :
    Keeps c s (s.takeNLink kind payload) := by
  rw [State.takeNLink.eq_def]
  split
  next => exact Keeps.takeUnknown kind payload s
  next => exact Keeps.takeReset payload s
  next k _ hk =>
    rw [NKind.code_of_ofByte hk] at hframe
    exact Keeps.takeRequest k payload _ s fun hlen t ht => Keeps.owner hframe hlen t ht

theorem Keeps.takeDLink (kind : Byte) (payload : List Byte) (s : State) : Keeps c s (s.takeDLink kind payload) := by
  refine Keeps.onRunning _ fun _ => ?_
  dsimp only
  split
  · exact (Keeps.frameTaken .d _ s).trans (Keeps.takeOdom _ _)
  · exact (Keeps.frameTaken .d _ s).trans (Keeps.count _ _ _)

theorem Keeps.takeSLink (kind : Byte) (payload : List Byte) (s : State) : Keeps c s (s.takeSLink kind payload) := by
  refine Keeps.onRunning _ fun _ => ?_
  dsimp only
  split
  · exact (Keeps.frameTaken .s _ s).trans (Keeps.takeSense _ _)
  · exact (Keeps.frameTaken .s _ s).trans (Keeps.count _ _ _)

theorem Keeps.discardFrame (link : Link) (received : List Byte) (s : State) :
    Keeps c s (s.discardFrame link received) :=
  (Keeps.setReceiver link _ s).trans (Keeps.count _ _ _)

/-- A departure (R166): the head leaves, and what waits takes the place it frees. -/
theorem Keeps.depart {f : Frame} {rest : List Frame} (h : s.port.out = f :: rest) :
    Keeps c s (s.depart f rest) := by
  refine Keeps.released { s.port with out := rest, nWire := f.wire } s.rep rfl rfl
    fun ⟨hlen, hoff, hcount, _, hrest⟩ => ⟨?_, hoff, hcount, hrest⟩
  rw [h] at hlen
  exact (Nat.le_succ _).trans hlen

/-! ## The timers (R58 to R61, R142 to R144, R171) -/

theorem State.enterLimp_motionOk (h : s.MotionOk) (hs : s.trv.state = .cruise) : s.enterLimp.MotionOk := by
  obtain ⟨hseg, ⟨hq, -⟩, -⟩ := h
  have hne : s.seg.queue ≠ [] := hq.mpr (.inl hs)
  refine ⟨hseg, ?_, ?_⟩
  · simp [State.TravelOk, State.enterLimp, hne]
  · simp [State.ApproachOk, State.enterLimp]

theorem Keeps.enterLimp (hs : s.MotionOk → s.trv.state = .cruise) : Keeps c s s.enterLimp :=
  Keeps.of_move rfl (s.enter_beacon .limp) (s.enter_sameButInterval .limp)
    (fun hm => State.enterLimp_motionOk hm (hs hm))
    fun hm => .inr ⟨by rw [hs hm]; decide, show ¬Travel.PowerCut .limp by decide⟩

theorem Keeps.cadenceLost (h : s.seg.cadence.isSome = true) : Keeps c s s.cadenceLost := by
  have hraised : Keeps c s (s.raise (.cadenceLost (s.paramNat .cadencePolicy))) := Keeps.raise _ s
  have hcruise : (s.raise (.cadenceLost (s.paramNat .cadencePolicy))).MotionOk →
      (s.raise (.cadenceLost (s.paramNat .cadencePolicy))).trv.state = .cruise := fun hm =>
    (hm.of_cadence (by simpa using h)).1
  rw [State.cadenceLost]
  split
  · exact hraised.trans (Keeps.enterLimp hcruise)
  · exact hraised.trans (Keeps.abortWhole_enter _ (.inl rfl) fun hm => by rw [hcruise hm]; decide)

theorem Keeps.graceEnds (h : s.trv.grace.isSome = true) : Keeps c s s.graceEnds :=
  Keeps.abortWhole_enter _ (.inl rfl) fun hm => by rw [hm.of_grace h]; decide

theorem Keeps.approachTimeout (h : s.dock.approach.isSome = true) : Keeps c s s.approachTimeout :=
  (Keeps.enter_still (.inl rfl)
    (fun hm => hm.queue_nil (by simp [hm.of_approach h]) (by simp [hm.of_approach h]))
    fun hm => by rw [hm.of_approach h]; decide).trans (Keeps.raise _ _)

theorem Keeps.settleEnds (h : s.dock.settle.isSome = true) : Keeps c s s.dockNow :=
  Keeps.dockNow (fun hm => hm.queue_nil (by simp [hm.of_settle h]) (by simp [hm.of_settle h]))
    fun hm => by rw [hm.of_settle h]; decide

theorem Keeps.telemetry (s : State) : Keeps c s s.telemetry :=
  (Keeps.pushLow _ _ s).trans (Keeps.of_tele _ _)

/-- An event that happens only where something is there to happen to. -/
theorem Keeps.ite {p : Prop} [Decidable p] (f : State → State) (h : p → Keeps c s (f s)) :
    Keeps c s (if p then f s else s) := by
  split
  next hp => exact h hp
  next => exact Keeps.refl c s

/-! ## Every command (R178) -/

/-- The end of start-up, before its events. -/
def State.started (s : State) : State :=
  { s with
    phase := .running
    port := { s.port with rxN := .hunting, rxD := .hunting, rxS := .hunting }
    haz := { s.haz with loss := some (s.paramNat .senseTimeout) }
    drv := { s.drv with period := some ⟨10, 0⟩, stopN := true }
    rep := { s.rep with timebase := 0, tele := s.teleInterval } }

/-- The part without supply. -/
def State.unpowered (reach : SaveReach) (s : State) : State :=
  { s with
    phase := .off
    store := s.store.cut reach
    drv := { s.drv with stopN := Config.stopNUnpowered } }

theorem Keeps.reportTorn (s : State) : Keeps c s s.reportTorn := by
  rw [State.reportTorn]
  split
  · exact Keeps.refl c s
  · exact (Keeps.setLatch _ _).trans (Keeps.raise _ _)

theorem Keeps.startUpEnds (s : State) : Keeps c s.started s.startUpEnds :=
  (Keeps.raise _ _).trans (Keeps.reportTorn _)

/-- A reset of the part. -/
def HardReset (c : Instr) : Prop := ∃ n1 n0 reach, c = .powerOnReset n1 n0 reach ∨ c = .pinReset n1 n0 reach

/-- The supply, RESET_N and start-up: the commands that are not events of a running part. -/
def ChangesSupply : Instr → Bool
  | .powerOnReset .. | .pinReset .. | .endOfStartUp | .powerLoss _ => true
  | _ => false

theorem exec_nFrame_keeps {kind : Byte} {payload : List Byte} (h : nFrameOf c = some (kind, payload)) (s : State) :
    ∃ t, exec c s = .next t ∧ Keeps c s t :=
  ⟨_, exec_nFrame h s, Keeps.takeNLink h s⟩

/-- An event of a running part keeps every invariant. -/
theorem exec_keeps (hc : ChangesSupply c = false) (s : State) : ∃ t, exec c s = .next t ∧ Keeps c s t := by
  cases c
  case powerOnReset => cases hc
  case pinReset => cases hc
  case endOfStartUp => cases hc
  case powerLoss => cases hc
  case wrongKindFrame link kind payload =>
    cases link
    · exact exec_nFrame_keeps rfl s
    · exact ⟨_, rfl, Keeps.takeDLink kind payload s⟩
    · exact ⟨_, rfl, Keeps.takeSLink kind payload s⟩
  case frameDiscard link bytes byteError =>
    refine ⟨_, rfl, (Keeps.onRunning _ fun _ => ?_)⟩
    split
    · exact Keeps.refl _ s
    · exact Keeps.ite _ fun _ => Keeps.discardFrame link _ s
  case interByteTimeout link bytes =>
    refine ⟨_, rfl, (Keeps.onRunning _ fun _ => ?_)⟩
    split
    · exact Keeps.refl _ s
    · exact Keeps.ite _ fun _ => Keeps.discardFrame link _ s
  case syncFound link =>
    refine ⟨_, rfl, (Keeps.onRunning _ fun _ => ?_)⟩
    split
    · exact Keeps.setReceiver link _ s
    · exact Keeps.refl _ s
  case departure =>
    refine ⟨_, rfl, (Keeps.onRunning _ fun _ => ?_)⟩
    split
    · exact Keeps.refl _ s
    next h => exact Keeps.depart h
  case odom payload => exact ⟨_, rfl, (Keeps.takeDLink _ payload s)⟩
  case sense payload => exact ⟨_, rfl, (Keeps.takeSLink _ payload s)⟩
  case drivePeriod order =>
    exact ⟨_, rfl, (Keeps.onRunning _ fun hrun => Keeps.ite _ (Keeps.periodEvent order hrun))⟩
  case responseTimerExpiry => exact ⟨_, rfl, (Keeps.onRunning _ fun _ => Keeps.ite _ Keeps.miss)⟩
  case guardTimerExpiry => exact ⟨_, rfl, (Keeps.onRunning _ fun _ => Keeps.guardEnds s)⟩
  case cadenceExpiry => exact ⟨_, rfl, (Keeps.onRunning _ fun _ => Keeps.ite _ Keeps.cadenceLost)⟩
  case limpGraceExpiry => exact ⟨_, rfl, (Keeps.onRunning _ fun _ => Keeps.ite _ Keeps.graceEnds)⟩
  case sensorLossExpiry =>
    exact ⟨_, rfl, (Keeps.onRunning _ fun _ => Keeps.ite _ fun _ => Keeps.sensorLoss s)⟩
  case approachTimerExpiry =>
    exact ⟨_, rfl, (Keeps.onRunning _ fun _ => Keeps.ite _ Keeps.approachTimeout)⟩
  case beamLostExpiry => exact ⟨_, rfl, (Keeps.onRunning _ fun _ => Keeps.ite _ Keeps.beamTimeout)⟩
  case settleExpiry => exact ⟨_, rfl, (Keeps.onRunning _ fun _ => Keeps.ite _ Keeps.settleEnds)⟩
  case telemetryExpiry =>
    exact ⟨_, rfl, (Keeps.onRunning _ fun _ => Keeps.ite _ fun _ => Keeps.telemetry s)⟩
  case completion =>
    refine ⟨_, rfl, (Keeps.onRunning _ fun _ => ?_)⟩
    split
    · exact Keeps.refl _ s
    next h => exact Keeps.saveCompletes h
  case verifyFailure step =>
    refine ⟨_, rfl, (Keeps.onRunning _ fun _ => ?_)⟩
    split
    · exact Keeps.refl _ s
    next h => exact Keeps.saveFails step h
  all_goals exact exec_nFrame_keeps rfl s

theorem State.takeRequest_stopped (h : s.phase ≠ .running) (k : NKind) (payload : List Byte)
    (act : State → State × Reply) : s.takeRequest k payload act = s := State.onRunning_stopped _ h

theorem State.takeReset_stopped (h : s.phase ≠ .running) (payload : List Byte) : s.takeReset payload = s := by
  rw [State.takeReset.eq_def]
  split
  · rw [if_neg fun hr => h hr.1]; exact State.takeRequest_stopped h _ _ _
  · exact State.takeRequest_stopped h _ _ _

theorem State.takeNLink_stopped (h : s.phase ≠ .running) (kind : Byte) (payload : List Byte) :
    s.takeNLink kind payload = s := by
  rw [State.takeNLink.eq_def]
  split
  · exact State.onRunning_stopped _ h
  · exact State.takeReset_stopped h payload
  · exact State.takeRequest_stopped h _ _ _

theorem exec_onRunning (hc : ChangesSupply c = false) (hf : nFrameOf c = none) :
    ∃ f, ∀ s : State, exec c s = .next (s.onRunning f) := by
  cases c
  case wrongKindFrame link kind payload =>
    cases link
    · cases hf
    · exact ⟨_, fun _ => rfl⟩
    · exact ⟨_, fun _ => rfl⟩
  all_goals cases hf
  all_goals cases hc
  all_goals exact ⟨_, fun _ => rfl⟩

/-- A part that does not run takes no event (R23, R178; log entry 18). -/
theorem exec_stopped (hc : ChangesSupply c = false) (h : s.phase ≠ .running) : exec c s = .next s := by
  cases hf : nFrameOf c with
  | none =>
    obtain ⟨f, hexec⟩ := exec_onRunning hc hf
    rw [hexec, State.onRunning_stopped f h]
  | some frame =>
    obtain ⟨kind, payload⟩ := frame
    rw [exec_nFrame hf, State.takeNLink_stopped h]

/-- The ways a command goes. -/
inductive Goes (c : Instr) (s : State) : State → Prop
  | inert : Goes c s s
  | event {t : State} (hrun : s.phase = .running) (h : Keeps c s t) : Goes c s t
  | hardReset (cause : ResetCause) (rate : NRate) (reach : SaveReach) (h : HardReset c) :
      Goes c s (s.hardReset cause rate reach)
  | startUpEnds {t : State} (hc : c = .endOfStartUp) (hphase : s.phase = .startUp) (h : Keeps c s.started t) :
      Goes c s t
  | powerLoss (reach : SaveReach) : Goes c s (s.unpowered reach)

theorem exec_goes (c : Instr) (s : State) : ∃ t, exec c s = .next t ∧ Goes c s t := by
  cases hc : ChangesSupply c with
  | false =>
    by_cases hr : s.phase = .running
    · obtain ⟨t, ht, hk⟩ := exec_keeps hc s
      exact ⟨t, ht, .event hr hk⟩
    · exact ⟨s, exec_stopped hc hr, .inert⟩
  | true =>
    cases c
    case powerOnReset n1 n0 reach => exact ⟨_, rfl, .hardReset _ _ _ ⟨n1, n0, reach, .inl rfl⟩⟩
    case pinReset n1 n0 reach =>
      refine ⟨_, rfl, ?_⟩
      split
      · exact .inert
      · exact .hardReset _ _ _ ⟨n1, n0, reach, .inr rfl⟩
    case endOfStartUp =>
      refine ⟨_, rfl, ?_⟩
      split
      next h => exact .startUpEnds rfl h (Keeps.startUpEnds s)
      next => exact .inert
    case powerLoss reach =>
      refine ⟨_, rfl, ?_⟩
      split
      · exact .inert
      · exact .powerLoss reach
    all_goals cases hc

theorem Goes.of_exec (h : exec c s = .next t) : Goes c s t := by
  obtain ⟨u, hu, hg⟩ := exec_goes c s
  rw [hu] at h
  cases h
  exact hg

theorem Goes.pending (h : Goes c s t) : t.pending = s.pending := by
  cases h with
  | inert => rfl
  | event _ h => exact h.pending
  | hardReset => rfl
  | startUpEnds _ _ h => exact h.pending
  | powerLoss => rfl

/-- A step is a millisecond, or the command at the front of the queue. -/
theorem step_goes (h : step s = .next t) :
    t = s.tick ∨ ∃ c rest, Goes c { s with pending := rest } t := by
  rw [step] at h
  split at h
  next => cases h; exact .inl rfl
  next c rest _ => exact .inr ⟨c, rest, Goes.of_exec h⟩

end

end Sys2Proof.Machine
end

-- ==== Proofs: the invariants of the part ====
section
/-! Every invariant holds after a reset of the part, through the end of start-up, a loss of supply and a millisecond,
and so at every step; and the promises over all commands. -/

namespace Sys2Proof.Machine

section

variable {c : Instr} {s t : State}

/-! ## After a reset of the part (R41, R68, R92, R113, R129, R148, R159, R175) -/

/-- The blocks of the reset state but for the memories. -/
theorem State.reset_inv : State.reset.Inv where
  memory := reset_memoryOk
  tables := by decide +kernel
  pose := by decide +kernel
  motion := ⟨by decide +kernel, by decide +kernel, by decide +kernel⟩
  gates := by decide +kernel
  drive := by decide +kernel
  store := by decide +kernel
  reports := by decide +kernel
  envelope := by decide +kernel

theorem Slot.records_of_valid {slot : Slot} (h : slot.state = .valid) : ∀ e ∈ slot.data, tileRecordOk e.2 = true := by
  rw [Slot.state] at h
  split at h
  next => cases h
  next =>
    split at h
    next hall => exact List.all_eq_true.mp hall
    next => cases h
  next => cases h

/-- The tiles the start-up load writes are well-formed: they come from VALID slots (R159). -/
theorem Medium.tiles_records (m : Medium) : ∀ e ∈ m.tiles, tileRecordOk e.2 = true := by
  intro e he
  obtain ⟨⟨p, slot⟩, -, he⟩ := List.mem_flatMap.mp he
  dsimp only at he
  split at he
  next hvalid =>
    obtain ⟨⟨a, b⟩, hab, rfl⟩ := List.mem_map.mp he
    exact Slot.records_of_valid hvalid (a, b) hab
  next => cases he

theorem State.hardReset_memoryOk (cause : ResetCause) (rate : NRate) (reach : SaveReach) (h : s.MemoryOk) :
    (s.hardReset cause rate reach).MemoryOk := by
  have hmedium := MapStore.cut_medium_ok h.2.1 h.2.2 reach
  exact ⟨⟨Medium.tiles_within hmedium, Medium.tiles_records _⟩, hmedium, by
    simp [State.hardReset, State.starting, MapStore.initial]⟩

/-! ## A cut save (R150, R162) -/

theorem MapStore.cut_current (st : MapStore) (reach : SaveReach) : (st.cut reach).current = none := by
  rw [MapStore.cut]
  split
  next h => exact h
  next => rfl

theorem MapStore.cut_listed (st : MapStore) (reach : SaveReach) :
    (st.cut reach).list = st.list ∧ (st.cut reach).error = st.error ∧
      (st.cut reach).failedPage = st.failedPage := by
  rw [MapStore.cut]
  split <;> exact ⟨rfl, rfl, rfl⟩

theorem State.unpowered_memoryOk (reach : SaveReach) (h : s.MemoryOk) : (s.unpowered reach).MemoryOk :=
  ⟨h.1, MapStore.cut_medium_ok h.2.1 h.2.2 reach, by simp [State.unpowered, MapStore.cut_current]⟩

theorem State.unpowered_storeOk (reach : SaveReach) (h : s.StoreOk) : (s.unpowered reach).StoreOk := by
  obtain ⟨hlist, herror, hfailed⟩ := s.store.cut_listed reach
  obtain ⟨hnodup, -, hiff, -⟩ := h
  refine ⟨?_, fun _ => s.store.cut_current reach, ?_, fun hoff => absurd rfl hoff⟩
  · rw [State.unpowered, hlist]; exact hnodup
  · rw [State.unpowered, hfailed, herror]; exact hiff

theorem State.unpowered_driveOk (reach : SaveReach) (h : s.DriveOk) : (s.unpowered reach).DriveOk := by
  obtain ⟨-, -, hrest⟩ := h
  exact ⟨fun h => (by cases h), fun h => (by cases h), hrest⟩

theorem State.started_driveOk (hphase : s.phase = .startUp) (h : s.DriveOk) : s.started.DriveOk := by
  obtain ⟨hstart, -, hresp, -, -, hrest⟩ := h
  obtain ⟨-, hidle, -⟩ := hstart hphase
  have hstate : s.started.trv.state = .idle := hidle
  refine ⟨fun h => (by cases h), fun _ => ⟨⟨fun h => (by cases h), ?_⟩, fun _ => ?_, fun _ => rfl⟩, hresp, ?_, ?_, hrest⟩
  · rw [hstate]; simp
  · rw [hstate]; decide
  · rw [hstate]; simp
  · rw [hstate]; simp

theorem State.started_storeOk (hphase : s.phase = .startUp) (h : s.StoreOk) : s.started.StoreOk := by
  obtain ⟨hnodup, herr, hiff, hlist⟩ := h
  exact ⟨hnodup, herr, hiff, fun _ => hlist (by rw [hphase]; decide)⟩

theorem State.started_reportsOk (h : s.ReportsOk) : s.started.ReportsOk := by
  obtain ⟨h1, h2, h3, h4, h5, h6, -⟩ := h
  exact ⟨h1, h2, h3, h4, h5, h6, Nat.two_pow_pos 32⟩

/-! ## A millisecond -/

@[simp] theorem Timer.isSome_tick (u : Timer) : (Timer.tick u).isSome = u.isSome := Option.isSome_map

theorem State.tick_motionOk (h : s.MotionOk) : s.tick.MotionOk := by
  rw [State.tick]
  split
  · simpa [State.MotionOk, State.TravelOk, State.ApproachOk, DockUnit.dark] using h
  · exact h

theorem State.tick_driveOk (h : s.DriveOk) : s.tick.DriveOk := by
  rw [State.tick]
  split
  · obtain ⟨h1, h2, h3, h4, hrest⟩ := h
    refine ⟨fun hp => ?_, fun hp => ?_, by simpa using h3, fun hc => ?_, hrest⟩
    · obtain ⟨k1, k2, k3, k4⟩ := h1 hp
      exact ⟨k1, k2, k3, by simp [k4]⟩
    · simpa using h2 hp
    · obtain ⟨k1, k2⟩ := h4 hc
      exact ⟨by simp [k1, Timer.tick], k2⟩
  · exact h

theorem State.tick_reportsOk (h : s.ReportsOk) : s.tick.ReportsOk := by
  rw [State.tick]
  split
  · obtain ⟨h1, h2, h3, h4, h5, h6, -⟩ := h
    exact ⟨h1, h2, h3, h4, h5, h6, Nat.mod_lt _ (Nat.two_pow_pos 32)⟩
  · exact h

/-- A millisecond leaves every memory, table, level and sum as it is. -/
theorem State.tick_blocks (s : State) : s.tick.phase = s.phase ∧ s.tick.map = s.map ∧ s.tick.pose = s.pose ∧
    s.tick.env = s.env ∧ s.tick.store = s.store ∧ s.tick.params = s.params ∧
    s.tick.dock.beacon = s.dock.beacon ∧ s.tick.haz.fl = s.haz.fl ∧ s.tick.haz.fr = s.haz.fr ∧
    s.tick.haz.sl = s.haz.sl ∧ s.tick.haz.sr = s.haz.sr := by
  rw [State.tick]
  split <;> simp

/-! ## At every step -/

/-- Settles O2: a command goes one of five ways, and each leaves the waiting commands. -/
theorem everyCommandCompletes : Obligations.EveryCommandCompletes := by
  unfold Obligations.EveryCommandCompletes
  intro c s
  obtain ⟨t, ht, hg⟩ := exec_goes c s
  exact ⟨t, ht, hg.pending⟩

/-- Settles O3: the reset state meets the one invariant that gathers them all. -/
theorem invariantsHoldAtReset : Obligations.InvariantsHoldAtReset := State.reset_inv

/-- Settles O4: by the tick and the five ways a command goes, an event's `Keeps` doing the work. -/
theorem stepKeepsMemoryCanonical : Obligations.StepKeepsMemoryCanonical := by
  unfold Obligations.StepKeepsMemoryCanonical
  intro s t hs ht
  rcases step_goes ht with rfl | ⟨c, rest, hg⟩
  · obtain ⟨-, hmap, -, -, hstore, -⟩ := s.tick_blocks
    rw [State.MemoryOk, hmap, hstore]
    exact hs
  · cases hg with
    | inert => exact hs
    | event _ h => exact h.memory hs
    | hardReset => exact State.hardReset_memoryOk _ _ _ hs
    | startUpEnds _ _ h => exact h.memory hs
    | powerLoss => exact State.unpowered_memoryOk _ hs

/-- Settles O5: by the ways a step goes; a reset writes the defaults. -/
theorem stepKeepsTablesInRange : Obligations.StepKeepsTablesInRange := by
  unfold Obligations.StepKeepsTablesInRange
  intro s t hs ht
  rcases step_goes ht with rfl | ⟨c, rest, hg⟩
  · obtain ⟨-, hmap, -, -, -, hparams, hbeacon, -⟩ := s.tick_blocks
    obtain ⟨h1, h2, h3⟩ := hs
    exact ⟨by simpa only [State.ParamsOk, State.param, hparams] using h1, by rw [hmap]; exact h2,
      by simpa only [DockUnit.BeaconOk, hbeacon] using h3⟩
  · cases hg with
    | inert => exact hs
    | event _ h => exact h.tables hs
    | hardReset => exact State.reset_inv.tables
    | startUpEnds _ _ h => exact h.tables hs
    | powerLoss => exact hs

/-- Settles O6: by the ways a step goes; an event needs the tables and the motion to keep the pose. -/
theorem stepKeepsPoseAndEnvelopeInRange : Obligations.StepKeepsPoseAndEnvelopeInRange := by
  unfold Obligations.StepKeepsPoseAndEnvelopeInRange
  intro s t htables hmotion hpose henv ht
  rcases step_goes ht with rfl | ⟨c, rest, hg⟩
  · obtain ⟨-, -, hpose', henv', -⟩ := s.tick_blocks
    rw [State.PoseOk, State.EnvelopeOk, hpose', henv']
    exact ⟨hpose, henv⟩
  · cases hg with
    | inert => exact ⟨hpose, henv⟩
    | event _ h => exact h.pose htables hmotion ⟨hpose, henv⟩
    | hardReset => exact ⟨State.reset_inv.pose, State.reset_inv.envelope⟩
    | startUpEnds _ _ h => exact h.pose htables hmotion ⟨hpose, henv⟩
    | powerLoss => exact ⟨hpose, henv⟩

/-- Settles O7: by the ways a step goes, the tick counting timers down without stopping one. -/
theorem stepKeepsTravelStateConsistent : Obligations.StepKeepsTravelStateConsistent := by
  unfold Obligations.StepKeepsTravelStateConsistent
  intro s t hs ht
  rcases step_goes ht with rfl | ⟨c, rest, hg⟩
  · exact State.tick_motionOk hs
  · cases hg with
    | inert => exact hs
    | event _ h => exact h.motion hs
    | hardReset => exact State.reset_inv.motion
    | startUpEnds _ _ h => exact h.motion hs
    | powerLoss => exact hs

/-- Settles O8: by the ways a step goes, the tick leaving the four sensor records. -/
theorem stepKeepsGateSpentOnlyWhileUnsafe : Obligations.StepKeepsGateSpentOnlyWhileUnsafe := by
  unfold Obligations.StepKeepsGateSpentOnlyWhileUnsafe
  intro s t hs ht
  rcases step_goes ht with rfl | ⟨c, rest, hg⟩
  · obtain ⟨-, -, -, -, -, -, -, hfl, hfr, hsl, hsr⟩ := s.tick_blocks
    rw [State.GatesOk, hfl, hfr, hsl, hsr]
    exact hs
  · cases hg with
    | inert => exact hs
    | event _ h => exact h.gates hs
    | hardReset => exact State.reset_inv.gates
    | startUpEnds _ _ h => exact h.gates hs
    | powerLoss => exact hs

theorem Goes.driveOk (hg : Goes c s t) (hm : s.MotionOk) (hd : s.DriveOk) : t.DriveOk := by
  cases hg with
  | inert => exact hd
  | event hrun h => exact h.drive hrun hm hd
  | hardReset => exact State.reset_inv.drive
  | startUpEnds _ hphase h => exact h.drive rfl hm (State.started_driveOk hphase hd)
  | powerLoss reach => exact State.unpowered_driveOk reach hd

/-- Settles O9: by the ways a step goes, an event needing the motion to keep the exchange. -/
theorem stepKeepsMotorPowerOffInFault : Obligations.StepKeepsMotorPowerOffInFault := by
  unfold Obligations.StepKeepsMotorPowerOffInFault
  intro s t hm hd ht
  rcases step_goes ht with rfl | ⟨c, rest, hg⟩
  · exact State.tick_driveOk hd
  · exact hg.driveOk hm hd

/-- Settles O10: by the ways a step goes; the end of start-up and the loss of supply have lemmas of their own. -/
theorem stepKeepsSaveListWithoutRepeats : Obligations.StepKeepsSaveListWithoutRepeats := by
  unfold Obligations.StepKeepsSaveListWithoutRepeats
  intro s t hs ht
  rcases step_goes ht with rfl | ⟨c, rest, hg⟩
  · obtain ⟨hphase, -, -, -, hstore, -⟩ := s.tick_blocks
    rw [State.StoreOk, hphase, hstore]
    exact hs
  · cases hg with
    | inert => exact hs
    | event _ h => exact h.store hs
    | hardReset => exact ⟨List.nodup_nil, fun _ => rfl, ⟨fun h => (by cases h), fun h => (by cases h)⟩, fun _ _ _ => rfl⟩
    | startUpEnds _ hphase h => exact h.store (State.started_storeOk hphase hs)
    | powerLoss reach => exact State.unpowered_storeOk reach hs

/-- Settles O11: by the ways a step goes; the end of start-up has a lemma of its own. -/
theorem stepKeepsReportsInBounds : Obligations.StepKeepsReportsInBounds := by
  unfold Obligations.StepKeepsReportsInBounds
  intro s t htables hs ht
  rcases step_goes ht with rfl | ⟨c, rest, hg⟩
  · exact State.tick_reportsOk hs
  · cases hg with
    | inert => exact hs
    | event _ h => exact h.reports htables hs
    | hardReset => exact State.reset_inv.reports
    | startUpEnds _ _ h => exact h.reports htables (State.started_reportsOk hs)
    | powerLoss => exact hs

/-! ## The promises over all commands -/

theorem State.DriveOk.of_locked (h : s.DriveOk) (hrun : s.phase = .running) (hl : s.trv.state = .locked) :
    s.drv.period = none ∧ s.drv.phase = .clear ∧ s.drv.stopN = false := by
  obtain ⟨-, hpower, -, -, hclear, -⟩ := h
  obtain ⟨hstop, hperiod⟩ := hpower hrun
  refine ⟨?_, hclear hl, hstop.mpr (.inr hl)⟩
  by_contra hne
  exact hperiod.mp (Option.isSome_iff_ne_none.mpr hne) hl

/-- Settles O12: by the ways a command goes; an event of a LOCKED part keeps what LOCKED holds. -/
theorem lockedIsLeftOnlyByHardReset : Obligations.LockedIsLeftOnlyByHardReset := by
  unfold Obligations.LockedIsLeftOnlyByHardReset
  intro c s t hm hd hl hrun ht
  obtain ⟨hperiod, hclear, hstop⟩ := hd.of_locked hrun hl
  cases Goes.of_exec ht with
  | inert => exact .inr ⟨hl, hperiod, hclear, rfl, fun _ => ⟨hstop, rfl⟩⟩
  | event _ h =>
    obtain ⟨hl', hpose, htx⟩ := h.locked hrun hm hd hl
    obtain ⟨hperiod', hclear', hstop'⟩ := (h.drive hrun hm hd).of_locked (h.phase.trans hrun) hl'
    exact .inr ⟨hl', hperiod', hclear', hpose, fun _ => ⟨hstop', htx⟩⟩
  | hardReset _ _ _ h => exact .inl h
  | startUpEnds _ hphase _ => rw [hphase] at hrun; cases hrun
  | powerLoss => exact .inr ⟨hl, hperiod, hclear, rfl, fun h => by cases h⟩

theorem State.ReportsOk.counter_le (h : s.ReportsOk) (i : Fin 12) : s.rep.counters[i] ≤ 65535 := by
  obtain ⟨-, -, -, -, hcounters, -⟩ := h
  exact hcounters _ (by simp)

theorem Keeps.counters_le (h : Keeps c s t) (hc : ¬ClearsCounters c) (hr : s.ReportsOk) (i : Fin 12) :
    s.rep.counters[i] ≤ t.rep.counters[i] := by
  have := h.counters hc i
  rwa [Nat.min_eq_left (hr.counter_le i)] at this

/-- A QUERY COUNTERS with clear that is served leaves every counter at 0; any other raises one at most. -/
theorem State.takeClear_counters (req : Byte) (hr : s.ReportsOk) (i : Fin 12) :
    let t := s.takeNLink NKind.query.code [req, 7, 1]
    s.rep.counters[i] ≤ t.rep.counters[i] ∨ t.rep.counters[i] = 0 := by
  have hnlink : s.takeNLink NKind.query.code [req, 7, 1] =
      s.takeRequest .query [req, 7, 1] (countersAct 1) := rfl
  dsimp only
  rw [hnlink]
  rcases s.takeRequest_cases .query [req, 7, 1] (countersAct 1) with ⟨-, h⟩ | ⟨-, h, -⟩ | ⟨r, rest, -, -, hcases⟩
  · rw [h]; exact .inl le_rfl
  · cases h
  rcases hcases with ⟨-, h⟩ | ⟨r, -, -, h⟩ | ⟨-, -, h⟩ <;> rw [h]
  · refine .inl ?_
    rw [State.count_getElem]
    have := hr.counter_le i
    simp only [State.frameTaken_rep]
    split <;> omega
  · exact .inl (by simp)
  · exact .inr (by simp [State.answer, countersAct])

/-- Settles O13: a query with clear by the counters it leaves, any other command by the ways it goes. -/
theorem countersFallOnlyByClear : Obligations.CountersFallOnlyByClear := by
  unfold Obligations.CountersFallOnlyByClear
  intro c s t i hr ht
  by_cases hc : ClearsCounters c
  · obtain ⟨req, hc⟩ := hc
    have hframe : nFrameOf c = some (NKind.query.code, [req, 7, 1]) := by
      rcases hc with rfl | rfl | rfl <;> rfl
    obtain rfl : s.takeNLink NKind.query.code [req, 7, 1] = t := by
      rw [exec_nFrame hframe] at ht
      exact Host.Outcome.next.inj ht
    rcases State.takeClear_counters req hr i with h | h
    · exact .inl h
    · rcases hc with hc | hc
      · exact .inr (.inr (.inl ⟨req, hc, h⟩))
      · exact .inr (.inr (.inr ⟨req, hc, h⟩))
  · cases Goes.of_exec ht with
    | inert => exact .inl le_rfl
    | event _ h => exact .inl (h.counters_le hc hr i)
    | hardReset _ _ _ h => exact .inr (.inl h)
    | startUpEnds _ _ h => exact .inl (h.counters_le hc (State.started_reportsOk hr) i)
    | powerLoss => exact .inl le_rfl

/-- Settles O14: by the ways a command goes; every event that does not override guards the marked tiles. -/
theorem observedTileIsGuarded : Obligations.ObservedTileIsGuarded := by
  unfold Obligations.ObservedTileIsGuarded
  intro c s t tx ty hm hx hy ho ht
  by_cases hc : OverridesTiles c
  · exact .inr (.inr hc)
  · cases Goes.of_exec ht with
    | inert => exact .inl ⟨ho, le_rfl⟩
    | event _ h => exact .inl (h.tiles hc hm tx ty hx hy ho)
    | hardReset _ _ _ h => exact .inr (.inl h)
    | startUpEnds _ _ h => exact .inl (h.tiles hc hm tx ty hx hy ho)
    | powerLoss => exact .inl ⟨ho, le_rfl⟩

end

end Sys2Proof.Machine
end

-- ==== Proofs: the step, the supply, resets and start-up ====
section
/-! The step on an empty queue, the reset values, the start-up load, a cut save, the end of start-up and a loss of
supply. -/

namespace Sys2Proof.Machine

section

variable {s t : State}

/-! ## A millisecond -/

theorem Interval.tick_eq (i : Interval) :
    i.tick = { i with passed := if i.passed < i.length then i.passed + 1 else i.passed } := by
  rw [Interval.tick]
  congr 1
  split <;> omega

/-- Settles O1: the empty queue's step is the tick, block by block. -/
theorem stepRunsFrontCommand : Obligations.StepRunsFrontCommand := by
  unfold Obligations.StepRunsFrontCommand
  refine ⟨fun _ _ _ => rfl, fun s hs => ?_⟩
  rw [step.eq_def, hs]
  dsimp only
  rw [State.tick]
  congr 1
  split
  next =>
    rw [funext Interval.tick_eq]
    congr 2
  next => rfl

/-! ## A reset of the part -/

/-- Settles O15: each block of the reset part evaluates to its reset value. -/
theorem hardResetGivesResetValues : Obligations.HardResetGivesResetValues := by
  unfold Obligations.HardResetGivesResetValues
  intro s n1 n0 reach
  refine ⟨s.hardReset .power (.ofPins n1 n0) reach, s.hardReset .pin (.ofPins n1 n0) reach, rfl, ?_, ?_, ?_⟩
  · intro h; exact congrArg Host.Outcome.next (if_neg h)
  · intro h; exact congrArg Host.Outcome.next (if_pos h)
  · and_intros
    all_goals rfl

/-! ## The start-up load (R23, R159) -/

theorem Slot.state_cases (x : Slot) :
    (x.begun = .absent ∧ x.complete = .absent → x.state = .blank) ∧
    (x.begun = .written ∧ x.complete = .written →
      x.state = if x.data.all (fun e => tileRecordOk e.2) then .valid else .torn) ∧
    (¬(x.begun = .absent ∧ x.complete = .absent) → ¬(x.begun = .written ∧ x.complete = .written) →
      x.state = .torn) := by
  obtain ⟨begun, complete, data⟩ := x
  cases begun <;> cases complete <;> simp [Slot.state]

/-- The load's fold over the slots listed from `lo` on: a page below keeps what it had. -/
theorem Medium.getElem_foldl_states (p : Page) : ∀ (m : Medium) {lo : Nat} (v : Vector SlotState 256),
    tableWfFrom Slot.blank lo m = true → (∀ e ∈ m, e.1 < 256) → (lo ≤ p.val → v[p] = .blank) →
    (m.foldl (fun v e => if h : e.1 < 256 then v.set e.1 e.2.state else v) v)[p] =
      if p.val < lo then v[p] else (m.slot p).state := by
  intro m
  induction m with
  | nil =>
    intro lo v _ _ hv
    split
    next => rfl
    next h => exact hv (Nat.not_lt.mp h)
  | cons e m ih =>
    obtain ⟨k, x⟩ := e
    intro lo v hwf hkeys hv
    obtain ⟨hk, -, hrest⟩ := tableWfFrom_cons.mp hwf
    have hk256 : k < 256 := hkeys (k, x) List.mem_cons_self
    have hother (h : k ≠ p.val) : (v.set k x.state)[p] = v[p] := Vector.getElem_set_ne hk256 p.isLt h
    rw [List.foldl_cons, dif_pos hk256, ih (lo := k + 1) (v.set k x.state) hrest
      (fun e he => hkeys e (List.mem_cons_of_mem _ he))
      fun h => by rw [hother (by omega)]; exact hv (by omega)]
    by_cases hp : k = p.val
    · subst hp
      rw [if_pos (Nat.lt_succ_self _), if_neg (Nat.not_lt.mpr hk)]
      simp [Medium.slot, tableGet]
    · rw [hother hp]
      have hslot : Medium.slot ((k, x) :: m) p = Medium.slot m p := if_neg hp
      rw [hslot]
      by_cases hlo : p.val < lo
      · rw [if_pos (by omega), if_pos hlo]
      · rw [if_neg hlo]
        split
        next h =>
          have hbelow : Medium.slot m p = Slot.blank := tableGet_below hrest h
          rw [hv (Nat.not_lt.mp hlo), hbelow]
          rfl
        next => rfl

/-- The slot state table holds each slot's state. -/
theorem Medium.getElem_states {m : Medium} (h : m.Ok) (p : Page) : m.states[p] = (m.slot p).state := by
  rw [Medium.states, Medium.getElem_foldl_states p m (lo := 0) _ h.1 (fun e he => (h.2 e he).1)
    fun _ => by simp]
  rfl

section

variable {β : Type} {d : β} {a : Nat}

theorem tableGet_absent : ∀ {m : List (Nat × β)}, (∀ e ∈ m, e.1 ≠ a) → tableGet d m a = d
  | [], _ => rfl
  | (k, v) :: m, h => by
    rw [tableGet, if_neg (h (k, v) List.mem_cons_self)]
    exact tableGet_absent fun e he => h e (List.mem_cons_of_mem _ he)

theorem tableGet_append_left {n : List (Nat × β)} (hn : ∀ e ∈ n, e.1 ≠ a) :
    ∀ m : List (Nat × β), tableGet d (m ++ n) a = tableGet d m a
  | [] => tableGet_absent hn
  | (k, v) :: m => by
    rw [List.cons_append, tableGet, tableGet, tableGet_append_left hn m]

theorem tableGet_append_right {n : List (Nat × β)} :
    ∀ {m : List (Nat × β)}, (∀ e ∈ m, e.1 ≠ a) → tableGet d (m ++ n) a = tableGet d n a
  | [], _ => rfl
  | (k, v) :: m, h => by
    rw [List.cons_append, tableGet, if_neg (h (k, v) List.mem_cons_self)]
    exact tableGet_append_right fun e he => h e (List.mem_cons_of_mem _ he)

theorem tableGet_shift (k i : Nat) : ∀ m : List (Nat × β),
    tableGet d (m.map fun e => (k + e.1, e.2)) (k + i) = tableGet d m i
  | [] => rfl
  | (j, v) :: m => by
    rw [List.map_cons, tableGet, tableGet, tableGet_shift k i m]
    simp only [Nat.add_left_cancel_iff]

end

theorem Medium.tiles_cons (k : Nat) (x : Slot) (m : Medium) : Medium.tiles ((k, x) :: m) =
    (if x.state = .valid then x.data.map fun e => (256 * k + e.1, e.2) else []) ++ m.tiles := rfl

/-- The tiles of the slots listed from `lo` on lie in their pages. -/
theorem Medium.tiles_above {m : Medium} {lo : Nat} (h : tableWfFrom Slot.blank lo m = true) :
    ∀ e ∈ m.tiles, 256 * lo ≤ e.1 := by
  intro e he
  obtain ⟨⟨p, slot⟩, hp, he⟩ := List.mem_flatMap.mp he
  have hlo : lo ≤ p := (tableGet_of_mem h hp).1
  dsimp only at he
  split at he
  next =>
    obtain ⟨⟨a, b⟩, -, rfl⟩ := List.mem_map.mp he
    show 256 * lo ≤ 256 * p + a
    omega
  next => cases he

/-- The tile the start-up load writes (R23). -/
theorem Medium.read_tiles (p : Page) {i : Nat} (hi : i < 256) : ∀ {m : Medium} {lo : Nat},
    tableWfFrom Slot.blank lo m = true → (∀ e ∈ m, e.2.data.Within 256) →
    m.tiles.read (256 * p.val + i) = if (m.slot p).state = .valid then (m.slot p).data.read i else 0
  | [], _, _, _ => rfl
  | (k, x) :: m, lo, hwf, hdata => by
    obtain ⟨-, -, hrest⟩ := tableWfFrom_cons.mp hwf
    have hx : x.data.Within 256 := hdata (k, x) List.mem_cons_self
    have habove := Medium.tiles_above hrest
    rw [Medium.tiles_cons]
    by_cases hp : k = p.val
    · subst hp
      have hafter : ∀ e ∈ Medium.tiles m, e.1 ≠ 256 * p.val + i := fun e he => by have := habove e he; omega
      have hslot : Medium.slot ((p.val, x) :: m) p = x := if_pos rfl
      rw [hslot, Memory.read, tableGet_append_left hafter]
      split
      · exact tableGet_shift _ _ _
      · rfl
    · have hslot : Medium.slot ((k, x) :: m) p = Medium.slot m p := if_neg hp
      rw [hslot, ← Medium.read_tiles p hi hrest fun e he => hdata e (List.mem_cons_of_mem _ he)]
      refine tableGet_append_right fun e he => ?_
      split at he
      · obtain ⟨y, hy, rfl⟩ := List.mem_map.mp he
        have := hx.2 y hy
        show 256 * k + y.1 ≠ 256 * p.val + i
        omega
      · cases he

/-- Settles O16: the load's table and tiles are read off the canonical medium, slot by slot. -/
theorem startUpLoadReadsSlots : Obligations.StartUpLoadReadsSlots := by
  unfold Obligations.StartUpLoadReadsSlots
  intro s t n1 n0 reach p i hm hi ht
  obtain rfl := Host.Outcome.next.inj ht
  have hmedium := MapStore.cut_medium_ok hm.2.1 hm.2.2 reach
  have hstate := Medium.getElem_states hmedium p
  have htile := Medium.read_tiles p hi hmedium.1 fun e he => (hmedium.2 e he).2
  obtain ⟨h1, h2, h3⟩ := ((s.store.cut reach).medium.slot p).state_cases
  rw [← hstate] at h1 h2 h3 htile
  simp only [List.all_eq_true] at h2
  exact ⟨h1, h2, h3, htile⟩

/-! ## A cut save (R150, R162) -/

/-- Settles O17: a cut writes its page's slot alone, and only past the point of R150. -/
theorem cutSaveLeavesSlotWholeOrTorn : Obligations.CutSaveLeavesSlotWholeOrTorn := by
  unfold Obligations.CutSaveLeavesSlotWholeOrTorn
  intro st c reach q hm hc
  have hmedium : (st.cut reach).medium = if SaveReach.pastPoint (st.medium.slot c.page) reach
      then st.medium.put c.page (SaveReach.leftover c.buffer reach) else st.medium := by
    simp only [MapStore.cut, hc]
  have hsame (x : Slot) : (st.medium.put c.page x).slot c.page = x := Medium.slot_put_same hm.1 c.page x
  dsimp only
  rw [hmedium]
  refine ⟨st.cut_current reach, fun hq => ?_, ?_, ?_, ?_⟩
  · split
    · exact Medium.slot_put_other _ hq _
    · rfl
  · rintro rfl; rfl
  · intro hreach
    by_cases hblank : (st.medium.slot c.page).begun = .absent ∧ (st.medium.slot c.page).complete = .absent
    · rw [if_pos hblank]
      rcases hreach with rfl | rfl <;> simp [SaveReach.pastPoint, hblank, hsame, SaveReach.leftover, Slot.state]
    · rw [if_neg hblank]
      rcases hreach with rfl | rfl <;> simp [SaveReach.pastPoint, hblank]
  · rintro (rfl | rfl | rfl) <;> simp [SaveReach.pastPoint, hsame, SaveReach.leftover, Slot.state]

/-! ## The end of start-up and a loss of supply -/

/-- Settles O18: the end of start-up is SYSTEM START and, over a TORN slot, its report. -/
theorem startUpEndStartsThePart : Obligations.StartUpEndStartsThePart := by
  unfold Obligations.StartUpEndStartsThePart
  intro s hs
  have htorn : (s.started.raise (.start s.rep.cause)).store.tornSlots = s.store.slots.toList.count .torn := by
    rw [State.raise_store]; rfl
  refine ⟨?_, rfl⟩
  show Host.Outcome.next (if s.phase = .startUp then s.startUpEnds else s) = _
  rw [if_pos hs, show s.startUpEnds = (s.started.raise (.start s.rep.cause)).reportTorn from rfl, State.reportTorn,
    htorn]
  rfl

/-- Settles O19: the commands that change the supply one by one, all others by the phase they find. -/
theorem powerLossStopsThePart : Obligations.PowerLossStopsThePart := by
  unfold Obligations.PowerLossStopsThePart
  refine ⟨fun s reach h => congrArg Host.Outcome.next (if_neg h), fun s c hpower => ⟨fun hoff => ?_, fun hstart hpin hend hloss => ?_⟩⟩
  · cases hc : ChangesSupply c with
    | false => exact exec_stopped hc (by rw [hoff]; decide)
    | true =>
      cases c
      case powerOnReset n1 n0 reach => exact absurd rfl (hpower n1 n0 reach)
      case pinReset => exact congrArg Host.Outcome.next (if_pos hoff)
      case endOfStartUp => exact congrArg Host.Outcome.next (if_neg (by rw [hoff]; decide))
      case powerLoss => exact congrArg Host.Outcome.next (if_pos hoff)
      all_goals cases hc
  · cases hc : ChangesSupply c with
    | false => exact exec_stopped hc (by rw [hstart]; decide)
    | true =>
      cases c
      case powerOnReset n1 n0 reach => exact absurd rfl (hpower n1 n0 reach)
      case pinReset n1 n0 reach => exact absurd rfl (hpin n1 n0 reach)
      case endOfStartUp => exact absurd rfl hend
      case powerLoss reach => exact absurd rfl (hloss reach)
      all_goals cases hc

end

end Sys2Proof.Machine
end

-- ==== Proofs: the N-link port and the receivers ====
section
/-! What the port answers before an owner sees a request (R180, R183, R187), frames of other kinds (R179), and frames
and receivers (R177, R178). -/

namespace Sys2Proof.Machine

section

variable {s t : State}

/-! ## Requests the port refuses (R180) -/

theorem nFrameOf_requestOf (k : NKind) (payload : List Byte) :
    nFrameOf (requestOf k payload) = some (k.code, payload) := by
  cases k <;> rfl

theorem nFrameOf_queryOf (req subject : Byte) (args : List Byte) :
    nFrameOf (queryOf req subject args) = some (NKind.query.code, req :: subject :: args) := by
  rw [queryOf]
  split
  case h_9 => rfl
  all_goals
    rename_i h
    simp only [nFrameOf, queryPayload, ← h, carry8_toNat]

theorem NKind.ofByte_code (k : NKind) : NKind.ofByte k.code = some k := by
  cases k <;> rfl

/-- The port meets every request by the cases of R180, but for a RESET that R185 exempts. -/
theorem State.takeNLink_code (k : NKind) (payload : List Byte)
    (h : k = .reset → payload.length = 1 → s.trv.state = .locked) :
    ∃ act, s.takeNLink k.code payload = s.takeRequest k payload act := by
  rw [State.takeNLink.eq_def, NKind.ofByte_code]
  by_cases hk : k = .reset
  · subst hk
    dsimp only
    rw [State.takeReset.eq_def]
    split
    next req =>
      rw [if_neg fun hc => hc.2 (h rfl rfl)]
      exact ⟨_, rfl⟩
    next => exact ⟨_, rfl⟩
  · cases k
    case reset => exact absurd rfl hk
    all_goals exact ⟨_, rfl⟩

theorem State.takeRequest_nil (hs : s.phase = .running) (k : NKind) (act : State → State × Reply) :
    s.takeRequest k [] act = (s.frameTaken .n 0).count .nCheck 1 := by
  rw [State.takeRequest, State.onRunning_running _ hs]
  rfl

theorem State.takeRequest_full (hs : s.phase = .running) (hfull : 16 ≤ s.queued) (k : NKind) (req : Byte)
    (rest : List Byte) (act : State → State × Reply) :
    s.takeRequest k (req :: rest) act = (s.frameTaken .n (req :: rest).length).count .replyLost 1 := by
  rw [State.takeRequest, State.onRunning_running _ hs]
  simp only [State.frameTaken_queued, if_pos hfull]

theorem lengthRefusal_eq {k : NKind} (hk : k ≠ .query) (payload : List Byte) :
    lengthRefusal k payload = if layoutAllows k payload then none else some ⟨.length, []⟩ := by
  cases k
  case query => exact absurd rfl hk
  case tileRun => simp [lengthRefusal, layoutAllows, byteAt, and_assoc]
  all_goals rfl

theorem portRefusal_of_layout {k : NKind} (hk : k ≠ .query) {payload : List Byte}
    (h : layoutAllows k payload = false) (u : Travel) : portRefusal u k payload = some ⟨.length, []⟩ := by
  simp [portRefusal, lengthRefusal_eq hk, h]

theorem portRefusal_of_locked {k : NKind} (hk : k ≠ .query) {payload : List Byte}
    (h : layoutAllows k payload = true) : portRefusal .locked k payload = some ⟨.state, []⟩ := by
  simp [portRefusal, lengthRefusal_eq hk, h, hk]

/-- Case 4 of R180 for a QUERY with a subject (R183). -/
theorem lengthRefusal_query (req subject : Byte) (args : List Byte) :
    lengthRefusal .query (req :: subject :: args) =
      if 7 < subject.toNat then some ⟨.range, [subject]⟩
      else if args.length = queryArguments subject.toNat then none else some ⟨.length, []⟩ := by
  simp [lengthRefusal]

theorem queryArguments_eq (subject : Byte) : queryArguments subject.toNat =
    if subject = 2 then 4 else if subject = 5 ∨ subject = 6 ∨ subject = 7 then 1 else 0 := by
  revert subject
  decide +kernel

/-- Settles O20: each case of the port by the refusal that comes first. -/
theorem portRefusesBeforeTheOwner : Obligations.PortRefusesBeforeTheOwner := by
  unfold Obligations.PortRefusesBeforeTheOwner
  refine ⟨⟨rfl, rfl⟩, fun s k req rest hs => ?_⟩
  have hexec (payload : List Byte) : exec (requestOf k payload) s = .next (s.takeNLink k.code payload) :=
    exec_nFrame (nFrameOf_requestOf k payload) s
  dsimp only
  refine ⟨?_, fun hfull hreset => ?_, fun hroom hk hlayout => ?_, fun hroom hk hlayout hlocked => ?_, fun hroom => ?_,
    fun subject args => ?_⟩
  · obtain ⟨act, hact⟩ := State.takeNLink_code (s := s) k [] fun _ h => by cases h
    rw [hexec, hact, State.takeRequest_nil hs]
  · obtain ⟨act, hact⟩ := State.takeNLink_code (s := s) k (req :: rest) fun hk hlen => by
      by_contra hl
      exact hreset ⟨hk, List.length_eq_zero_iff.mp (Nat.succ.inj hlen), hl⟩
    rw [hexec, hact, State.takeRequest_full hs hfull]
  · obtain ⟨act, hact⟩ := State.takeNLink_code (s := s) k (req :: rest) fun hreset hlen => by
      rw [hreset, layoutAllows, hlen] at hlayout
      cases hlayout
    rw [hexec, hact, State.takeRequest_refused req act ⟨hs, hroom⟩ (portRefusal_of_layout hk hlayout _)]
    rfl
  · obtain ⟨act, hact⟩ := State.takeNLink_code (s := s) k (req :: rest) fun _ _ => hlocked
    rw [hexec, hact, State.takeRequest_refused req act ⟨hs, hroom⟩
      (by rw [hlocked]; exact portRefusal_of_locked hk hlayout)]
    rfl
  · show Host.Outcome.next (s.takeRequest .query [req] (queryOwner [req])) = _
    rw [State.takeRequest_refused req _ ⟨hs, hroom⟩ (r := ⟨.length, []⟩) (by rw [portRefusal_query]; rfl)]
    rfl
  · have hquery : exec (queryOf req subject args) s =
        .next (s.takeRequest .query (req :: subject :: args) (queryOwner (req :: subject :: args))) :=
      exec_nFrame (nFrameOf_queryOf req subject args) s
    rw [hquery]
    refine ⟨fun hfull => ?_, fun hroom h7 => ?_, fun hroom h7 hargs => ?_⟩
    · rw [State.takeRequest_full hs hfull]; rfl
    · rw [State.takeRequest_refused req _ ⟨hs, hroom⟩ (r := ⟨.range, [subject]⟩)
        (by rw [portRefusal_query, lengthRefusal_query, if_pos h7])]
      rfl
    · rw [State.takeRequest_refused req _ ⟨hs, hroom⟩ (r := ⟨.length, []⟩)
        (by rw [portRefusal_query, lengthRefusal_query, if_neg (Nat.not_lt.mpr h7),
          if_neg (by rw [queryArguments_eq]; exact hargs)])]
      rfl

/-! ## Frames of other kinds (R179) -/

/-- Settles O21: each case by what the port does with a frame no row names. -/
theorem framesOfOtherKindsAreCounted : Obligations.FramesOfOtherKindsAreCounted := by
  unfold Obligations.FramesOfOtherKindsAreCounted
  intro s kind req rest p hs
  have hunknown (hk : NKind.ofByte kind = none) (payload : List Byte) :
      exec (.unknownKind kind payload) s = .next (s.takeUnknown kind payload) := by
    rw [exec_nFrame rfl, State.takeNLink.eq_def, hk]
  dsimp only
  refine ⟨fun hk => ?_, fun hk hroom => ?_, fun hk hfull => ?_, fun hne => ?_, fun hne => ?_⟩
  · rw [hunknown hk, State.takeUnknown, State.onRunning_running _ hs]
    rfl
  · rw [hunknown hk, State.takeUnknown, State.onRunning_running _ hs]
    dsimp only
    rw [if_neg (by simpa [State.queued] using hroom)]
    rfl
  · rw [hunknown hk, State.takeUnknown, State.onRunning_running _ hs]
    dsimp only
    rw [if_pos (by simpa [State.queued] using hfull)]
  · show Host.Outcome.next (s.takeDLink kind p) = _
    rw [State.takeDLink, State.onRunning_running _ hs]
    exact congrArg _ (if_neg hne)
  · show Host.Outcome.next (s.takeSLink kind p) = _
    rw [State.takeSLink, State.onRunning_running _ hs]
    exact congrArg _ (if_neg hne)

/-! ## Frames and receivers (R177, R178) -/

/-- A receiver that hunts through bytes enters the frame behind their first SYNC. -/
theorem Receiver.hunt_eq_dropWhile (bytes : List Byte) :
    (bytes.dropWhile (fun b => b != 0xC5) = [] ∧ Receiver.hunt bytes = .hunting) ∨
    ∃ rest, bytes.dropWhile (fun b => b != 0xC5) = 0xC5 :: rest ∧ Receiver.hunt bytes = .inFrame rest := by
  induction bytes with
  | nil => exact .inl ⟨rfl, rfl⟩
  | cons b rest ih =>
    rw [Receiver.hunt, List.dropWhile_cons]
    by_cases hb : b = 0xC5
    · subst hb
      exact .inr ⟨rest, rfl, rfl⟩
    · rw [if_neg hb, if_pos (by simpa using hb)]
      exact ih

theorem Frame.length_body (f : Frame) : f.body.length = f.payload.length + 2 := rfl

theorem carry8_toNat_of_lt {n : Nat} (h : n < 256) : (carry8 n).toNat = n := by
  rw [carry8, BitVec.toNat_ofNat]; exact Nat.mod_eq_of_lt h

theorem incomplete_iff (r : List Byte) : incomplete r = true ↔
    r.length < 2 ∨ (byteAt r 1).toNat ≤ 200 ∧ r.length < (byteAt r 1).toNat + 4 := by
  match r with
  | [] | [_] => simp [incomplete]
  | kind :: len :: rest =>
    simp only [incomplete, byteAt, List.getD_cons_succ, List.getD_cons_zero, List.length_cons, Bool.and_eq_true,
      decide_eq_true_eq]
    omega

theorem checkMatches_iff {r : List Byte} (h : (byteAt r 1).toNat + 4 ≤ r.length) : checkMatches r = true ↔
    [byteAt r ((byteAt r 1).toNat + 2), byteAt r ((byteAt r 1).toNat + 3)] =
      bytes16 (crc (r.take ((byteAt r 1).toNat + 2))) := by
  match r with
  | [] | [_] => simp at h
  | kind :: len :: rest =>
    have hlen : len.toNat + 4 ≤ rest.length + 2 := h
    have htwo : (rest.drop len.toNat).take 2 = [rest.getD len.toNat 0, rest.getD (len.toNat + 1) 0] := by
      rw [List.drop_eq_getElem_cons (by omega), List.take_succ_cons, List.drop_eq_getElem_cons (by omega),
        List.take_succ_cons, List.take_zero, List.getD_eq_getElem _ _ (by omega), List.getD_eq_getElem _ _ (by omega)]
    rw [checkMatches, htwo]
    exact beq_iff_eq

theorem discards_incomplete {r : List Byte} (h : incomplete r = true) (e : Bool) : discards r e = e := by
  unfold discards
  rw [if_pos h]

theorem discards_complete {r : List Byte} (h : ¬incomplete r = true) (e : Bool) :
    discards r e = (decide (200 < (byteAt r 1).toNat) || !checkMatches r) := by
  unfold discards
  rw [if_neg h]
  match r with
  | [] | [_] => exact absurd rfl h
  | kind :: len :: rest => rfl

/-- What discards a frame (R178). -/
theorem discards_of {r : List Byte} {e : Bool}
    (h : 2 ≤ r.length ∧ 200 < (byteAt r 1).toNat ∨
      e = true ∧ ¬(2 ≤ r.length ∧ (byteAt r 1).toNat ≤ 200 ∧ (byteAt r 1).toNat + 4 ≤ r.length) ∨
      (2 ≤ r.length ∧ (byteAt r 1).toNat ≤ 200 ∧ (byteAt r 1).toNat + 4 ≤ r.length) ∧
        [byteAt r ((byteAt r 1).toNat + 2), byteAt r ((byteAt r 1).toNat + 3)] ≠
          bytes16 (crc (r.take ((byteAt r 1).toNat + 2)))) : discards r e = true := by
  by_cases hi : incomplete r = true
  · have hi' := (incomplete_iff r).mp hi
    rw [discards_incomplete hi]
    rcases h with h | ⟨he, -⟩ | ⟨h, -⟩
    · omega
    · exact he
    · omega
  · have hi' := fun h => hi ((incomplete_iff r).mpr h)
    rw [discards_complete hi, Bool.or_eq_true, decide_eq_true_eq, Bool.not_eq_true']
    rcases h with h | ⟨-, h⟩ | ⟨h, hcheck⟩
    · exact .inl h.2
    · exact .inl (by by_contra hc; exact hi' (by omega))
    · refine .inr ?_
      by_contra hm
      exact hcheck ((checkMatches_iff h.2.2).mp (by simpa using hm))

/-- The bytes of a sent frame after its SYNC. -/
def Frame.afterSync (f : Frame) : List Byte := f.body ++ bytes16 (crc f.body)

theorem Frame.length_afterSync (f : Frame) : f.afterSync.length = f.payload.length + 4 := by
  simp [Frame.afterSync, Frame.length_body, bytes16]

theorem Frame.checkMatches_afterSync (f : Frame) (h : f.payload.length < 256) : checkMatches f.afterSync = true := by
  simp [Frame.afterSync, Frame.body, checkMatches, carry8_toNat_of_lt h, bytes16]

theorem Frame.byteAt_afterSync (f : Frame) : byteAt f.afterSync 1 = carry8 f.payload.length := rfl

theorem State.frameTaken_eq (link : Link) (n : Nat) (s : State) :
    s.frameTaken link n = s.setReceiver link ((s.port.receiver link).afterFrame n) := by
  cases link <;> rfl

/-- Settles O22: a composed frame parses back whole, and each discard is the receiver's rescan of what it holds. -/
theorem receiverTakesWholeFramesAndHuntsAgain : Obligations.ReceiverTakesWholeFramesAndHuntsAgain := by
  unfold Obligations.ReceiverTakesWholeFramesAndHuntsAgain
  refine ⟨by decide +kernel, fun f e hf => ?_, fun s link hs hr => ?_, fun s link other n r => ⟨?_, ?_⟩,
    fun s link got bytes err hs hr => ?_⟩
  · have hlen := f.length_afterSync
    have hbyte : (byteAt f.afterSync 1).toNat = f.payload.length := carry8_toNat_of_lt (by omega)
    have hwhole : ¬incomplete f.afterSync = true := by
      rw [incomplete_iff, hbyte, hlen]; omega
    refine ⟨f.afterSync, rfl, hlen, by simpa using hwhole, ?_, fun n hn => ?_⟩
    · rw [discards_complete hwhole, f.checkMatches_afterSync (by omega), hbyte]
      simpa using hf
    · rw [incomplete_iff]
      by_cases h2 : n < 2
      · exact .inl (by rw [List.length_take]; omega)
      · have hsame : byteAt (f.afterSync.take n) 1 = byteAt f.afterSync 1 := by
          simp [byteAt, show 1 < n by omega]
        rw [hsame, hbyte, List.length_take]
        exact .inr ⟨hf, by omega⟩
  · show Host.Outcome.next (s.onRunning _) = _
    rw [State.onRunning_running _ hs, hr]
  · split
    next h => rw [h, State.setReceiver_same]
    next h => exact State.setReceiver_other _ _ _ _ h
  · rw [State.frameTaken_eq]
    cases s.port.receiver link with
    | hunting => rfl
    | inFrame got =>
      rw [Receiver.afterFrame]
      rcases Receiver.hunt_eq_dropWhile (got.drop (n + 4)) with ⟨h1, h2⟩ | ⟨rest, h1, h2⟩ <;> rw [h2] <;> dsimp only <;>
        rw [h1]
  · have hagain : Receiver.hunt (got ++ bytes) = match (got ++ bytes).dropWhile (fun b => b != 0xC5) with
        | [] => .hunting
        | _ :: rest => .inFrame rest := by
      rcases Receiver.hunt_eq_dropWhile (got ++ bytes) with ⟨h1, h2⟩ | ⟨rest, h1, h2⟩ <;> rw [h2, h1]
    refine ⟨fun h => ?_, fun hw hl => ?_⟩
    · show Host.Outcome.next (s.onRunning _) = _
      rw [State.onRunning_running _ hs, hr]
      dsimp only
      rw [if_pos (discards_of h)]
      exact congrArg (fun r => Host.Outcome.next ((s.setReceiver link r).count (checkCounter link) 1)) hagain
    · show Host.Outcome.next (s.onRunning _) = _
      rw [State.onRunning_running _ hs, hr]
      dsimp only
      rw [if_pos ((incomplete_iff _).mpr (by omega))]
      exact congrArg (fun r => Host.Outcome.next ((s.setReceiver link r).count (checkCounter link) 1)) hagain

end

end Sys2Proof.Machine
end

-- ==== Proofs: RESUME, DOCK, UNDOCK and POSE ====
section
/-! What a request that its owner takes leaves, exactly: the reply waits in the output queue, and the owner acts on the
part in which it waits. -/

namespace Sys2Proof.Machine

section

variable {c : Instr} {s : State}

/-! ## A request handed to its owner (R180) -/

/-- An owner whose reply does not hang on the port acts on the part in which its reply waits. -/
theorem State.takeRequest_taken (hs : s.Takes) {k : NKind} {payload : List Byte} (hp : payload ≠ [])
    (hlen : lengthRefusal k payload = none) {act : State → State × Reply} {g : State → State} {r : Reply}
    (hact : ∀ p : LinkPorts, act { s with port := p } = (g { s with port := p }, r)) :
    s.takeRequest k payload act = g (s.replied payload.length (byteAt payload 0) k r.code r.data) := by
  obtain ⟨req, rest, rfl⟩ := List.exists_cons_of_ne_nil hp
  have htaken : act (s.replied (rest.length + 1) req k r.code r.data) = _ :=
    hact (s.replied (rest.length + 1) req k r.code r.data).port
  have hreply (f : Frame) : (act ((s.frameTaken .n (rest.length + 1)).pushUp f)).2 = r :=
    congrArg Prod.snd (hact ((s.frameTaken .n (rest.length + 1)).pushUp f).port)
  rw [State.takeRequest_composes hs hlen (r := r) hreply]
  exact congrArg Prod.fst htaken

/-- The same, for the command that carries it. -/
theorem exec_taken (hs : s.Takes) {k : NKind} {payload : List Byte} (hk : k ≠ .reset)
    (hframe : nFrameOf c = some (k.code, payload)) (hp : payload ≠ [])
    (hlen : lengthRefusal k payload = none) {g : State → State} {r : Reply}
    (hact : ∀ p : LinkPorts, owner payload k { s with port := p } = (g { s with port := p }, r)) :
    exec c s = .next (g (s.replied payload.length (byteAt payload 0) k r.code r.data)) := by
  rw [exec_nFrame hframe, State.takeNLink.eq_def, NKind.ofByte_code]
  cases k
  case reset => exact absurd rfl hk
  all_goals exact congrArg _ (State.takeRequest_taken hs hp hlen hact)

/-! ## RESUME (R111) -/

/-- Settles O27: by the travel state and what blocks a RESUME. -/
theorem resumeByTravelState : Obligations.ResumeByTravelState := by
  unfold Obligations.ResumeByTravelState
  intro s req hs
  have htaken (g : State → State) (r : Reply)
      (hact : ∀ p : LinkPorts, resumeAct { s with port := p } = (g { s with port := p }, r)) :=
    exec_taken hs (k := .resume) (payload := [req]) (c := .resume [req]) (by decide) rfl (by simp) rfl hact
  dsimp only
  split
  next hstate => exact htaken id ⟨.state, s.resumeData⟩ fun p => if_neg hstate
  next hstate =>
    have hhalted : s.trv.state = .halted := Decidable.not_not.mp hstate
    have hdata : s.resumeData = 4 :: s.resumeData.tail := by rw [State.resumeData, hhalted]; rfl
    split
    next hblocked =>
      have := htaken id ⟨.halted, s.resumeData⟩ fun p => (if_pos hhalted).trans (if_pos hblocked)
      rw [hdata] at this
      exact this
    next hfree =>
      exact htaken (State.enter .idle) ⟨.ok, (s.enter .idle).resumeData⟩ fun p =>
        (if_pos hhalted).trans (if_neg hfree)

/-! ## DOCK and UNDOCK (R134, R145) -/

theorem State.beginApproach_dockData (s : State) :
    s.beginApproach.dockData = [5, if s.dock.contact then 4 else 1, 0] := by
  obtain ⟨hstate, hyield, -, -, hsub, -⟩ := s.beginApproach_effect
  rw [State.dockData, hstate, hyield, hsub]
  cases s.dock.contact <;> rfl

theorem State.beginYield_dockData (h : s.trv.state = .cruise) :
    s.beginYield.dockData = [1, carry8 s.dock.sub.number, 1] := by
  simp only [State.beginYield_eq, State.dockData, State.raiseAll_trv, State.raiseAll_dock, State.yielding, h]
  rfl

/-- Settles O28: by the travel state, the yield taken apart into its abort and its note. -/
theorem dockByTravelState : Obligations.DockByTravelState := by
  unfold Obligations.DockByTravelState
  intro s req hs
  have htaken (g : State → State) (r : Reply)
      (hact : ∀ p : LinkPorts, dockAct { s with port := p } = (g { s with port := p }, r)) :=
    exec_taken hs (k := .dock) (payload := [req]) (c := .dock [req]) (by decide) rfl (by simp) rfl hact
  split
  next hidle =>
    refine htaken State.beginApproach ⟨.ok, [5, if s.dock.contact then 4 else 1, 0]⟩ fun p => ?_
    simp only [dockAct, hidle, State.beginApproach_dockData]
  split
  next hcruise =>
    obtain ⟨hcruise, hyield⟩ := hcruise
    refine (htaken State.beginYield ⟨.ok, [1, carry8 s.dock.sub.number, 1]⟩ fun p => ?_).trans ?_
    · simp only [dockAct, hcruise, hyield]
      rw [if_neg (by decide), State.beginYield_dockData (s := { s with port := p }) hcruise]
    · simp only [State.beginYield_eq, State.raiseAll_eq]
      rfl
  next hidle hcruise =>
    refine htaken id ⟨if s.trv.state = .halted then .halted else .state, s.dockData⟩ fun p => ?_
    cases hstate : s.trv.state
    case idle => exact absurd hstate hidle
    case cruise =>
      have hyield : s.trv.yield = true := by simpa [hstate] using hcruise
      simp only [dockAct, hstate, hyield]
      rfl
    all_goals
      simp only [dockAct, hstate]
      rfl

theorem State.startBackoff_undock_dockData (s : State) : (s.startBackoff .undock).dockData = [3, 0, 0] := by
  simp only [State.dockData, State.startBackoff, State.enter_trv, State.enter_dock]
  cases s.trv.yield <;> rfl

/-- Settles O29: by the travel state, the cancelled yield restarting the cadence. -/
theorem undockByTravelState : Obligations.UndockByTravelState := by
  unfold Obligations.UndockByTravelState
  intro s req hs htrv
  have htaken (g : State → State) (r : Reply)
      (hact : ∀ p : LinkPorts, undockAct { s with port := p } = (g { s with port := p }, r)) :=
    exec_taken hs (k := .undock) (payload := [req]) (c := .undock [req]) (by decide) rfl (by simp) rfl hact
  split
  next hdocked =>
    refine htaken (State.startBackoff .undock) ⟨.ok, [3, 0, 0]⟩ fun p => ?_
    simp only [undockAct, hdocked, State.startBackoff_undock_dockData]
  split
  next happroach =>
    refine htaken (fun t => (t.enter .idle).raise (.dockFailed .cancelled)) ⟨.ok, [0, 0, 0]⟩ fun p => ?_
    simp only [undockAct, happroach, State.dockData, State.raise_trv, State.raise_dock, State.enter_trv,
      State.enter_dock]
    cases s.trv.yield <;> rfl
  split
  next hcruise =>
    obtain ⟨hcruise, hyield⟩ := hcruise
    have hqueue : s.seg.queue ≠ [] := htrv.1.mpr (.inl hcruise)
    have hrestart (p : LinkPorts) : ({ s with port := p } : State).cancelYield =
        ({ s with
          port := p, trv := { s.trv with yield := false }
          seg := { s.seg with cadence := some (s.paramNat .cadenceWindow) } } : State).raise
          (.dockFailed .cancelled) := by
      rw [State.cancelYield_eq, State.restartCadence, if_pos ⟨hcruise, hqueue, rfl⟩]
      rfl
    refine (htaken State.cancelYield ⟨.ok, [1, carry8 s.dock.sub.number, 0]⟩ fun p => ?_).trans ?_
    · simp only [undockAct, hcruise, hyield, hrestart, State.dockData, State.raise_trv, State.raise_dock]
      rfl
    · refine congrArg _ ((hrestart _).trans ?_)
      simp only [State.raise_eq]
      rfl
  next hdocked happroach hcruise =>
    refine htaken id ⟨.state, s.dockData⟩ fun p => ?_
    cases hstate : s.trv.state
    case docked => exact absurd hstate hdocked
    case approach => exact absurd hstate happroach
    case cruise =>
      have hyield : s.trv.yield = false := by simpa [hstate] using hcruise
      simp only [undockAct, hstate, hyield]
      rfl
    all_goals
      simp only [undockAct, hstate]
      rfl

/-! ## POSE (R38, R39) -/

theorem PoseFields.refusal_eq (f : PoseFields) (u : Travel) : f.refusal u =
    if f.quality ≠ 1 ∧ f.quality ≠ 2 ∨ f.x < -12800000 ∨ 12799999 < f.x ∨ f.y < -12800000 ∨ 12799999 < f.y then
      some .range
    else if u = .docked then some .state else none := by
  have hmap : (!(onMap f.x && onMap f.y)) = true ↔
      f.x < -12800000 ∨ 12799999 < f.x ∨ f.y < -12800000 ∨ 12799999 < f.y := by
    simp only [onMap, Bool.not_eq_true', Bool.and_eq_false_iff, decide_eq_false_iff_not]
    omega
  simp only [PoseFields.refusal, hmap]
  by_cases hq : f.quality ≠ 1 ∧ f.quality ≠ 2
  · rw [if_pos hq, if_pos (.inl hq)]
  · rw [if_neg hq]
    simp only [hq, false_or]

/-- A quality rises to the one a correction sets (R38). -/
theorem Quality.number_lt_iff (q r : Quality) (hr : r ≠ .lost) : q.number < r.number ↔
    q = .lost ∨ q = .degraded ∧ r = .good := by
  revert hr
  cases q <;> cases r <;> decide

/-- Settles O30: by the refusals of a correction, then its quality. -/
theorem poseCorrection : Obligations.PoseCorrection := by
  unfold Obligations.PoseCorrection
  intro s p hs hp
  have hne : p ≠ [] := by rintro rfl; cases hp
  have htaken (g : State → State) (r : Reply)
      (hact : ∀ port : LinkPorts, poseAct (.read p) { s with port := port } = (g { s with port := port }, r)) := by
    have := exec_taken hs (k := .pose) (payload := p) (c := .pose p) (by decide) rfl hne
      (by simp [lengthRefusal, hp]) hact
    rwa [hp] at this
  have hone : (PoseFields.read p).quality = 1 ↔ byteAt p 11 = 1 := BitVec.toNat_inj (y := 1)
  have htwo : (PoseFields.read p).quality = 2 ↔ byteAt p 11 = 2 := BitVec.toNat_inj (y := 2)
  have hrefusal := (PoseFields.read p).refusal_eq s.trv.state
  simp only [ne_eq, hone, htwo] at hrefusal
  dsimp only
  split
  next hrange =>
    replace hrefusal := hrefusal.trans (if_pos hrange)
    exact htaken id ⟨.range, s.pose.data⟩ fun port => poseAct_refused (s := { s with port := port }) hrefusal
  next hrange =>
    replace hrefusal := hrefusal.trans (if_neg hrange)
    split
    next hdocked =>
      rw [if_pos hdocked] at hrefusal
      exact htaken id ⟨.state, s.pose.data⟩ fun port => poseAct_refused (s := { s with port := port }) hrefusal
    next hdocked =>
      rw [if_neg hdocked] at hrefusal
      refine (htaken (fun t => if t.pose.quality.number < (PoseFields.read p).newQuality.number then
          (t.corrected (.read p)).raise .poseRestored else t.corrected (.read p)) ⟨.ok, s.pose.data⟩ fun port =>
        poseAct_accepted (s := { s with port := port }) hrefusal).trans ?_
      have hnew : (PoseFields.read p).newQuality = if byteAt p 11 = 2 then .good else .degraded := by
        simp only [PoseFields.newQuality, htwo]
      have hlost : (PoseFields.read p).newQuality ≠ .lost := by rw [hnew]; split <;> decide
      have hrises : s.pose.quality.number < (PoseFields.read p).newQuality.number ↔
          s.pose.quality = .lost ∨ s.pose.quality = .degraded ∧ byteAt p 11 = 2 := by
        rw [Quality.number_lt_iff _ _ hlost, hnew]
        simp
      have hcorrected (t : State) : t.corrected (.read p) = { t with pose := { t.pose with
          x := signed32At p 1, y := signed32At p 5, h := unsignedAt p 9
          quality := if byteAt p 11 = 2 then .good else .degraded } } := by
        rw [State.corrected, hnew]; rfl
      simp only [hcorrected]
      by_cases h : s.pose.quality = .lost ∨ s.pose.quality = .degraded ∧ byteAt p 11 = 2
      · rw [if_pos h]; exact congrArg _ (if_pos (hrises.mpr h))
      · rw [if_neg h]; exact congrArg _ (if_neg fun hc => h (hrises.mp hc))

end

end Sys2Proof.Machine
end

-- ==== Proofs: MOVE and KEEP ====
section
/-! What a MOVE and a KEEP leave, exactly: the beat, the judgement of the segment, and the cadence timer (R46 to R51,
R56, R57, R60). -/

namespace Sys2Proof.Machine

section

variable {s t u w : State} {f : MoveFields} {beat : Nat}

/-! ## The beat check (R47, R60) -/

theorem SegmentQueue.beatRefusal_range (q : SegmentQueue) (h : 1 < beat) : q.beatRefusal beat = some .range :=
  if_pos h

theorem SegmentQueue.beatRefusal_stale {q : SegmentQueue} (h : beat ≤ 1)
    (hlast : q.lastBeat = some (decide (beat = 1))) : q.beatRefusal beat = some .stale :=
  (if_neg (Nat.not_lt.mpr h)).trans (if_pos hlast)

theorem SegmentQueue.beatRefusal_fresh {q : SegmentQueue} (h : q.FreshBeat beat) : q.beatRefusal beat = none :=
  (if_neg (Nat.not_lt.mpr h.1)).trans (if_neg h.2)

/-- The part with the last beat set. -/
def State.beaten (beat : Nat) (s : State) : State :=
  { s with seg := { s.seg with lastBeat := some (decide (beat = 1)) } }

theorem State.passBeat_of_ne_limp (h : s.trv.state ≠ .limp) : s.passBeat beat = s.beaten beat := if_neg h

/-- The approach's part where no approach runs. -/
def DockUnit.idle (d : DockUnit) : DockUnit :=
  { d with sub := .none_, approach := none, beamLost := none, settle := none }

theorem State.ApproachOk.dock_idle (h : s.ApproachOk) (hs : s.trv.state ≠ .approach) : s.dock.idle = s.dock := by
  obtain ⟨hsub, happ, hsettle, hbeam⟩ := h
  have h1 : s.dock.sub = .none_ := by by_contra hne; exact hs (hsub.mp hne)
  have h2 : s.dock.approach = none := Option.not_isSome_iff_eq_none.mp fun h => hs (happ.mp h)
  have h3 : s.dock.settle = none := Option.not_isSome_iff_eq_none.mp fun h => by
    have := hsettle.mp h; rw [h1] at this; cases this
  have h4 : s.dock.beamLost = none := Option.not_isSome_iff_eq_none.mp fun h => by
    rcases (hbeam.mp h).1 with h | h <;> rw [h1] at h <;> cases h
  cases hdock : s.dock
  simp_all [DockUnit.idle]

theorem State.TravelOk.backoff_none (h : s.TravelOk) (hs : s.trv.state ≠ .backoff) : s.trv.backoff = none :=
  Option.not_isSome_iff_eq_none.mp fun hb => hs (h.2.2.2.2.mp hb)

theorem State.TravelOk.yield_false (h : s.TravelOk) (hs : s.trv.state ≠ .cruise) : s.trv.yield = false := by
  by_contra hy
  exact hs (h.2.1 (by simpa using hy))

/-- A beat that passes in LIMP restores CRUISE (R60). -/
theorem State.passBeat_limp (hl : s.trv.state = .limp) (h : s.TravelOk) :
    s.passBeat beat = { s.cadenceRestored with
      seg := { s.seg with lastBeat := some (decide (beat = 1)) }, dock := s.dock.idle } := by
  have hb := h.backoff_none (by rw [hl]; decide)
  have hy := h.yield_false (by rw [hl]; decide)
  have henter : (s.beaten beat).enter .cruise = { s with
      seg := { s.seg with lastBeat := some (decide (beat = 1)) }, dock := s.dock.idle
      trv := { s.trv with state := .cruise, grace := none } } := by
    refine State.eq_of_blocks rfl rfl rfl rfl rfl ?_ rfl rfl ?_ rfl rfl rfl rfl rfl
    · simp [State.beaten, hb, hy]
    · simp [State.beaten, hl]
  rw [State.passBeat]
  refine (if_pos hl).trans ?_
  rw [State.cadenceRestored, if_pos hl, show ({ s with seg := _ } : State) = s.beaten beat from rfl, henter,
    State.raise_eq, State.raise_eq]

/-- A beat that passes in any state the agreement allows. -/
theorem State.passBeat_eq_restored (h : s.TravelOk) (ha : s.ApproachOk) :
    s.passBeat beat = { s.cadenceRestored with seg := { s.seg with lastBeat := some (decide (beat = 1)) } } := by
  by_cases hl : s.trv.state = .limp
  · rw [State.passBeat_limp hl h, ha.dock_idle (by rw [hl]; decide), State.cadenceRestored, if_pos hl, State.raise_eq]
  · rw [State.passBeat_of_ne_limp hl, State.cadenceRestored, if_neg hl]; rfl

theorem State.cadenceRestored_trv (hs : s.trv.state = .cruise ∨ s.trv.state = .limp) :
    s.cadenceRestored.trv.state = .cruise ∧ s.cadenceRestored.trv.yield = s.trv.yield := by
  rw [State.cadenceRestored]
  split
  next => simp
  next hl => exact ⟨hs.resolve_right hl, rfl⟩

/-! ## The cadence timer (R57) -/

theorem State.restartCadence_pos (h1 : s.trv.state = .cruise) (h2 : s.seg.queue ≠ []) (h3 : s.trv.yield = false) :
    s.restartCadence = { s with seg := { s.seg with cadence := some (s.paramNat .cadenceWindow) } } :=
  if_pos ⟨h1, h2, h3⟩

theorem State.restartCadence_neg (h : ¬(s.trv.state = .cruise ∧ s.seg.queue ≠ [] ∧ s.trv.yield = false)) :
    s.restartCadence = s := if_neg h

/-! ## The judgement (R48 to R51) -/

theorem State.judgeMove_refused {code : ReplyCode} (h : s.trv.moveRefusal = some code) :
    s.judgeMove f = (s, code, 0) := by simp only [State.judgeMove, h]

theorem State.judgeMove_senseless (h : s.trv.moveRefusal = none) (hf : ¬f.Meaningful) :
    s.judgeMove f = (s, .range, 0) := by
  have hsense : f.senseless = true := by
    by_contra hs
    exact hf (f.senseless_iff.mp (by simpa using hs))
  simp only [State.judgeMove, h, hsense, if_true]

theorem MoveFields.okOr_clamps (f : MoveFields) :
    ReplyCode.okOr f.clamps = if f.OutOfRange then .clamped else .ok := by
  rw [ReplyCode.okOr]
  simp only [f.clamps_iff]

theorem State.judgeMove_replace (h : s.trv.moveRefusal = none) (hf : f.Meaningful) (hp : f.placement = 1) :
    s.judgeMove f = ((s.abortWhole .replaced).placeSegment f, if f.OutOfRange then .clamped else .ok,
      s.seg.queue.length) := by
  simp only [State.judgeMove, h, f.senseless_iff.mpr hf, hp, if_true, Bool.false_eq_true, if_false, f.okOr_clamps]

theorem State.judgeMove_full (h : s.trv.moveRefusal = none) (hf : f.Meaningful) (hp : f.placement ≠ 1)
    (hfull : 8 ≤ s.seg.queue.length) : s.judgeMove f = (s, .full, 0) := by
  simp only [State.judgeMove, h, f.senseless_iff.mpr hf, hp, hfull, if_true, Bool.false_eq_true, if_false]

theorem State.judgeMove_append (h : s.trv.moveRefusal = none) (hf : f.Meaningful) (hp : f.placement ≠ 1)
    (hroom : s.seg.queue.length < 8) :
    s.judgeMove f = (s.placeSegment f, if f.OutOfRange then .clamped else .ok, 0) := by
  simp only [State.judgeMove, h, f.senseless_iff.mpr hf, hp, Nat.not_le.mpr hroom, Bool.false_eq_true, if_false,
    f.okOr_clamps]

/-- A MOVE whose beat passes: the judgement, then the cadence timer (R46). -/
theorem moveAct_judged {v : State} {code : ReplyCode} {aborted : Nat} (h : u.seg.FreshBeat f.beat)
    (hpass : u.passBeat f.beat = w) (hjudge : w.judgeMove f = (v, code, aborted)) (hrestart : v.restartCadence = t) :
    moveAct f u = (t, ⟨code, t.moveData aborted⟩) := by
  simp only [moveAct, SegmentQueue.beatRefusal_fresh h, hpass, hjudge, hrestart]

theorem moveAct_unbeaten {code : ReplyCode} (h : u.seg.beatRefusal f.beat = some code) :
    moveAct f u = (u, ⟨code, u.moveData 0⟩) := by simp only [moveAct, h]

theorem exec_move_taken {payload : List Byte} (hs : s.Takes) (hp : payload.length = 13) (g : State → State)
    (r : Reply) (hact : ∀ p : LinkPorts, moveAct (.read payload) { s with port := p } = (g { s with port := p }, r)) :
    exec (.move payload) s = .next (g (s.replied 13 (byteAt payload 0) .move r.code r.data)) := by
  have := exec_taken hs (k := .move) (payload := payload) (c := .move payload) (by decide) rfl
    (by rintro rfl; cases hp) (by simp [lengthRefusal, hp]) hact
  rwa [hp] at this

/-! ## MOVE -/

theorem TravelController.moveRefusal_idle {v : TravelController} (h : v.state = .idle) : v.moveRefusal = none := by
  simp only [TravelController.moveRefusal, h]

theorem TravelController.moveRefusal_cruise {v : TravelController} (h : v.state = .cruise) (hy : v.yield = false) :
    v.moveRefusal = none := by
  simp [TravelController.moveRefusal, h, hy]

/-- The part in CRUISE with one ACTIVE record and a full cadence window. -/
def State.cruising (f : MoveFields) (s : State) : State :=
  { s.enter .cruise with seg :=
    { queue := [f.record .active], lastBeat := some (decide (f.beat = 1))
      cadence := some (s.paramNat .cadenceWindow) } }

theorem State.restart_placed (hf : f.Meaningful) (hq : s.seg.queue = []) (hy : s.trv.yield = false) :
    ((s.beaten f.beat).placeSegment f).restartCadence = s.cruising f := by
  rw [State.placeSegment, if_pos (show (s.beaten f.beat).seg.queue = [] from hq), MoveFields.segment_eq hf,
    State.restartCadence_pos (by simp) (by simp) (by simp [State.beaten, hy])]
  rfl

theorem moveAct_idle (h : u.seg.FreshBeat f.beat) (hidle : u.trv.state = .idle) (hy : u.trv.yield = false)
    (hq : u.seg.queue = []) (hf : f.Meaningful) :
    moveAct f u = (u.cruising f, ⟨if f.OutOfRange then .clamped else .ok, [1, 1, 0]⟩) := by
  have hpass := u.passBeat_of_ne_limp (beat := f.beat) (by rw [hidle]; decide)
  have hnone := TravelController.moveRefusal_idle (v := (u.beaten f.beat).trv) hidle
  have hrestart := State.restart_placed hf hq hy
  by_cases hp : f.placement = 1
  · have hempty : (u.beaten f.beat).abortWhole .replaced = u.beaten f.beat := by
      simp only [State.abortWhole, State.beaten, hq]
      rfl
    have hjudge := State.judgeMove_replace hnone hf hp
    rw [hempty, show (u.beaten f.beat).seg.queue = [] from hq] at hjudge
    exact moveAct_judged h hpass hjudge hrestart
  · exact moveAct_judged h hpass (State.judgeMove_append hnone hf hp
      (by rw [show (u.beaten f.beat).seg.queue = [] from hq]; decide)) hrestart

/-- Settles O23: a MOVE taken in IDLE, through the request's common path. -/
theorem moveStartsCruise : Obligations.MoveStartsCruise := by
  unfold Obligations.MoveStartsCruise
  intro s p f hs hp hidle hy hq hbeat hf
  exact exec_move_taken hs hp (State.cruising f) _ fun port =>
    moveAct_idle (u := { s with port := port }) hbeat hidle hy hq hf

@[simp] theorem State.cadenceRestored_seg (s : State) : s.cadenceRestored.seg = s.seg := by
  rw [State.cadenceRestored]; split <;> simp

@[simp] theorem State.cadenceRestored_paramNat (s : State) (p : Param) :
    s.cadenceRestored.paramNat p = s.paramNat p := by
  rw [State.cadenceRestored]; split <;> simp [State.paramNat, State.param]

@[simp] theorem State.cadenceRestored_dock (s : State) : s.cadenceRestored.dock = s.dock := by
  rw [State.cadenceRestored]; split <;> simp

@[simp] theorem State.cadenceRestored_drv (s : State) : s.cadenceRestored.drv = s.drv := by
  rw [State.cadenceRestored]; split <;> simp

/-- A part whose beat may pass: in CRUISE without a yield, or in LIMP (R46). -/
structure State.Paced (s : State) : Prop where
  state : s.trv.state = .cruise ∨ s.trv.state = .limp
  yield : s.trv.yield = false
  travel : s.TravelOk
  approach : s.ApproachOk

theorem State.Paced.queue_ne (h : s.Paced) : s.seg.queue ≠ [] := h.travel.1.mpr h.state

theorem State.Paced.trv_eq (h : s.Paced) : s.cadenceRestored.trv = { s.trv with state := .cruise, grace := none } := by
  rw [State.cadenceRestored]
  split
  next => simp
  next hl =>
    have hs := h.state.resolve_right hl
    have hg : s.trv.grace = none := Option.not_isSome_iff_eq_none.mp fun hg => hl (h.travel.2.2.2.1.mp hg)
    cases htrv : s.trv
    simp_all

/-- The part in CRUISE once a beat has passed, its records and cadence timer given (R57, R60). -/
def State.held (beat : Nat) (queue : List Segment) (cadence : Timer) (s : State) : State :=
  { s.cadenceRestored with seg := { queue := queue, lastBeat := some (decide (beat = 1)), cadence := cadence } }

theorem State.Paced.passBeat_eq (h : s.Paced) : s.passBeat beat = s.held beat s.seg.queue s.seg.cadence :=
  State.passBeat_eq_restored h.travel h.approach

theorem State.Paced.held_state (h : s.Paced) (queue : List Segment) (cadence : Timer) :
    (s.held beat queue cadence).trv.state = .cruise := by rw [State.held, h.trv_eq]

theorem State.Paced.held_yield (h : s.Paced) (queue : List Segment) (cadence : Timer) :
    (s.held beat queue cadence).trv.yield = false := by rw [State.held, h.trv_eq]; exact h.yield

theorem State.Paced.restart_held (h : s.Paced) {queue : List Segment} (hq : queue ≠ []) (cadence : Timer) :
    (s.held beat queue cadence).restartCadence = s.held beat queue (some (s.paramNat .cadenceWindow)) := by
  have hwindow : (s.held beat queue cadence).paramNat .cadenceWindow = s.paramNat .cadenceWindow :=
    s.cadenceRestored_paramNat _
  rw [State.restartCadence_pos (h.held_state _ _) hq (h.held_yield _ _), hwindow]
  rfl

theorem State.Paced.moveRefusal_none (h : s.Paced) (queue : List Segment) (cadence : Timer) :
    (s.held beat queue cadence).trv.moveRefusal = none :=
  TravelController.moveRefusal_cruise (h.held_state _ _) (h.held_yield _ _)

/-- The state entered is the one the part is in. -/
theorem State.Paced.enter_held (h : s.Paced) (queue : List Segment) (cadence : Timer) :
    (s.held beat queue cadence).enter .cruise = s.held beat queue cadence := by
  have hb : s.trv.backoff = none :=
    h.travel.backoff_none (by rcases h.state with h | h <;> rw [h] <;> decide)
  have happ : s.trv.state ≠ .approach := by rcases h.state with h | h <;> rw [h] <;> decide
  refine State.eq_of_blocks rfl rfl rfl rfl rfl ?_ rfl rfl ?_ ?_ rfl rfl rfl rfl
  · rw [State.enter_trv, State.held, h.trv_eq]
    simp [hb, h.yield]
  · rw [State.enter_drv, if_neg fun hd => absurd (hd.1.symm.trans (h.held_state _ _)) (by decide)]
  · rw [State.enter_dock, if_neg (by decide)]
    show s.cadenceRestored.dock.idle = s.cadenceRestored.dock
    rw [State.cadenceRestored_dock]
    exact h.approach.dock_idle happ

theorem State.Paced.moveData (h : s.Paced) (queue : List Segment) (cadence : Timer) (aborted : Nat) :
    (s.held beat queue cadence).moveData aborted = [1, carry8 queue.length, carry8 aborted] := by
  rw [State.moveData, h.held_state]
  rfl

theorem State.Paced.moveAct_senseless (h : u.Paced) (hbeat : u.seg.FreshBeat f.beat) (hf : ¬f.Meaningful) :
    moveAct f u = (u.held f.beat u.seg.queue (some (u.paramNat .cadenceWindow)),
      ⟨.range, [1, carry8 u.seg.queue.length, 0]⟩) := by
  rw [moveAct_judged hbeat h.passBeat_eq (State.judgeMove_senseless (h.moveRefusal_none _ _) hf)
    (h.restart_held h.queue_ne _), h.moveData]
  rfl

theorem State.Paced.moveAct_full (h : u.Paced) (hbeat : u.seg.FreshBeat f.beat) (hf : f.Meaningful)
    (hp : f.placement ≠ 1) (hfull : u.seg.queue.length = 8) :
    moveAct f u = (u.held f.beat u.seg.queue (some (u.paramNat .cadenceWindow)), ⟨.full, [1, 8, 0]⟩) := by
  rw [moveAct_judged hbeat h.passBeat_eq (State.judgeMove_full (h.moveRefusal_none _ _) hf hp hfull.ge)
    (h.restart_held h.queue_ne _), h.moveData, hfull]
  rfl

theorem State.Paced.moveAct_append (h : u.Paced) (hbeat : u.seg.FreshBeat f.beat) (hf : f.Meaningful)
    (hp : f.placement ≠ 1) (hroom : u.seg.queue.length < 8) :
    moveAct f u = (u.held f.beat (u.seg.queue ++ [f.record .queued]) (some (u.paramNat .cadenceWindow)),
      ⟨if f.OutOfRange then .clamped else .ok, [1, carry8 (u.seg.queue.length + 1), 0]⟩) := by
  have hplaced : (u.held f.beat u.seg.queue u.seg.cadence).placeSegment f =
      u.held f.beat (u.seg.queue ++ [f.record .queued]) u.seg.cadence := by
    rw [State.placeSegment, if_neg (show (u.held f.beat u.seg.queue u.seg.cadence).seg.queue ≠ [] from h.queue_ne),
      MoveFields.segment_eq hf]
    rfl
  have hrestart := h.restart_held (beat := f.beat) (queue := u.seg.queue ++ [f.record .queued]) (by simp) u.seg.cadence
  rw [← hplaced] at hrestart
  rw [moveAct_judged hbeat h.passBeat_eq (State.judgeMove_append (h.moveRefusal_none _ _) hf hp hroom) hrestart,
    h.moveData, List.length_append]
  rfl

theorem State.Paced.moveAct_replace (h : u.Paced) (hbeat : u.seg.FreshBeat f.beat) (hf : f.Meaningful)
    (hp : f.placement = 1) :
    moveAct f u = ((u.held f.beat [f.record .active] (some (u.paramNat .cadenceWindow))).raiseAll
        (abortEvents u.seg.queue .replaced),
      ⟨if f.OutOfRange then .clamped else .ok, [1, 1, carry8 u.seg.queue.length]⟩) := by
  have hplaced : (u.held f.beat [] u.seg.cadence).placeSegment f = u.held f.beat [f.record .active] u.seg.cadence := by
    rw [State.placeSegment, if_pos (show (u.held f.beat [] u.seg.cadence).seg.queue = [] from rfl),
      MoveFields.segment_eq hf]
    exact h.enter_held _ _
  have hrestart : (((u.held f.beat u.seg.queue u.seg.cadence).abortWhole .replaced).placeSegment f).restartCadence =
      (u.held f.beat [f.record .active] (some (u.paramNat .cadenceWindow))).raiseAll
        (abortEvents u.seg.queue .replaced) := by
    rw [State.abortWhole_eq_emptied, State.raiseAll_placeSegment, State.raiseAll_restartCadence,
      show (u.held f.beat u.seg.queue u.seg.cadence).emptied = u.held f.beat [] u.seg.cadence from rfl, hplaced,
      h.restart_held (by simp)]
    rfl
  rw [moveAct_judged hbeat h.passBeat_eq (State.judgeMove_replace (h.moveRefusal_none _ _) hf hp) hrestart,
    State.moveData, State.raiseAll_trv, State.raiseAll_seg, h.held_state]
  rfl

/-- Settles O24: by the place a MOVE asks for and the length of the queue. -/
theorem moveAppendsOrReplacesInCruise : Obligations.MoveAppendsOrReplacesInCruise := by
  unfold Obligations.MoveAppendsOrReplacesInCruise
  intro s p f hs hp hstate hy htrv happ hlen hbeat hf
  have hpaced (port : LinkPorts) : ({ s with port := port } : State).Paced := ⟨hstate, hy, htrv, happ⟩
  dsimp only
  split
  next hplace =>
    refine (exec_move_taken hs hp (fun t => (t.held f.beat [f.record .active]
      (some (t.paramNat .cadenceWindow))).raiseAll (abortEvents t.seg.queue .replaced))
      ⟨if f.OutOfRange then .clamped else .ok, [1, 1, carry8 s.seg.queue.length]⟩ fun port =>
      (hpaced port).moveAct_replace hbeat hf hplace).trans ?_
    simp only [State.raiseAll_eq]
    rfl
  next hplace =>
    split
    next hfull =>
      exact exec_move_taken hs hp (fun t => t.held f.beat t.seg.queue (some (t.paramNat .cadenceWindow)))
        ⟨.full, [1, 8, 0]⟩ fun port => (hpaced port).moveAct_full hbeat hf hplace hfull
    next hroom =>
      have hroom' : s.seg.queue.length < 8 := by omega
      exact exec_move_taken hs hp (fun t => t.held f.beat (t.seg.queue ++ [f.record .queued])
        (some (t.paramNat .cadenceWindow)))
        ⟨if f.OutOfRange then .clamped else .ok, [1, carry8 (s.seg.queue.length + 1), 0]⟩
        fun port => (hpaced port).moveAct_append hbeat hf hplace hroom'

/-! ## Refused MOVEs (R46 to R49) -/

theorem moveAct_refused {code : ReplyCode} (h : u.seg.FreshBeat f.beat) (hlimp : u.trv.state ≠ .limp)
    (hcruise : ¬(u.trv.state = .cruise ∧ u.seg.queue ≠ [] ∧ u.trv.yield = false))
    (hjudge : (u.beaten f.beat).judgeMove f = (u.beaten f.beat, code, 0)) :
    moveAct f u = (u.beaten f.beat, ⟨code, u.moveData 0⟩) :=
  moveAct_judged h (u.passBeat_of_ne_limp hlimp) hjudge (State.restartCadence_neg hcruise)

/-- Settles O25: by the refusal that comes first: the beat, the travel state, the meaning. -/
theorem refusedMoveLeavesTheQueue : Obligations.RefusedMoveLeavesTheQueue := by
  unfold Obligations.RefusedMoveLeavesTheQueue
  intro s p code hs hp
  dsimp only
  refine ⟨fun h => ?_, fun h hlast => ?_, fun h hcases => ?_, fun h hf hidle hq => ?_, fun h hf hcruise hy hq => ?_,
    fun h hf hlimp htrv happ => ?_⟩
  · exact exec_move_taken hs hp id ⟨.range, s.moveData 0⟩ fun port =>
      moveAct_unbeaten (u := { s with port := port }) (SegmentQueue.beatRefusal_range _ h)
  · exact exec_move_taken hs hp id ⟨.stale, s.moveData 0⟩ fun port =>
      moveAct_unbeaten (u := { s with port := port }) (SegmentQueue.beatRefusal_stale h hlast)
  · refine exec_move_taken hs hp (State.beaten (MoveFields.read p).beat) ⟨code, s.moveData 0⟩ fun port => ?_
    have hrefused : s.trv.moveRefusal = some code := by
      rw [TravelController.moveRefusal]
      rcases hcases with ⟨h, hy, rfl⟩ | ⟨h, rfl⟩ | ⟨h, rfl⟩ | ⟨h | h | h, rfl⟩
      · simp [h, hy]
      all_goals simp [h]
    refine moveAct_refused (u := { s with port := port }) h ?_ ?_ (State.judgeMove_refused hrefused)
    · rcases hcases with ⟨h, -⟩ | ⟨h, -⟩ | ⟨h, -⟩ | ⟨h | h | h, -⟩ <;> simp [h]
    · rintro ⟨hc, -, hn⟩
      rw [TravelController.moveRefusal_cruise hc hn] at hrefused
      cases hrefused
  · have := exec_move_taken hs hp (State.beaten (MoveFields.read p).beat) ⟨.range, s.moveData 0⟩ fun port =>
      moveAct_refused (u := { s with port := port }) h (by simp [hidle]) (by simp [hidle])
        (State.judgeMove_senseless (TravelController.moveRefusal_idle hidle) hf)
    rw [State.moveData, hidle, hq] at this
    exact this
  · have hpass (u : State) (hu : u.trv.state = .cruise) := u.passBeat_of_ne_limp (beat := (MoveFields.read p).beat)
      (by rw [hu]; decide)
    have := exec_move_taken hs hp (fun t => { t with seg := { t.seg with
        lastBeat := some (decide ((MoveFields.read p).beat = 1)), cadence := some (t.paramNat .cadenceWindow) } })
      ⟨.range, s.moveData 0⟩ fun port =>
      moveAct_judged (u := { s with port := port }) h (hpass _ hcruise)
        (State.judgeMove_senseless (TravelController.moveRefusal_cruise hcruise hy) hf)
        (State.restartCadence_pos hcruise hq hy)
    rw [State.moveData, hcruise] at this
    exact this
  · have hpaced (port : LinkPorts) : ({ s with port := port } : State).Paced :=
      ⟨.inr hlimp, htrv.yield_false (by rw [hlimp]; decide), htrv, happ⟩
    exact exec_move_taken hs hp (fun t => t.held (MoveFields.read p).beat t.seg.queue
      (some (t.paramNat .cadenceWindow))) ⟨.range, [1, carry8 s.seg.queue.length, 0]⟩ fun port =>
      (hpaced port).moveAct_senseless h hf

/-! ## KEEP (R56) -/

theorem keepAct_unbeaten {code : ReplyCode} (h : u.seg.beatRefusal beat = some code) :
    keepAct beat u = (u, ⟨code, u.keepData⟩) := by simp only [keepAct, h]

theorem keepAct_fresh (h : u.seg.FreshBeat beat) (hrestart : (u.passBeat beat).restartCadence = t) :
    keepAct beat u = (t, ⟨.ok, t.keepData⟩) := by
  simp only [keepAct, SegmentQueue.beatRefusal_fresh h, hrestart]

theorem State.keep_passed (h : s.TravelOk) (hl : s.trv.state ≠ .limp) : (s.passBeat beat).restartCadence =
    { s with seg := { s.seg with
        lastBeat := some (decide (beat = 1))
        cadence := if s.trv.state = .cruise ∧ s.trv.yield = false
          then some (s.paramNat .cadenceWindow) else s.seg.cadence } } := by
  rw [State.passBeat_of_ne_limp hl]
  by_cases hc : s.trv.state = .cruise ∧ s.trv.yield = false
  · rw [if_pos hc]
    exact State.restartCadence_pos hc.1 (h.1.mpr (.inl hc.1)) hc.2
  · rw [if_neg hc]
    exact State.restartCadence_neg fun hc' => hc ⟨hc'.1, hc'.2.2⟩

theorem State.cadenceRestored_limp (h : s.trv.state = .limp) : s.cadenceRestored =
    ({ s with trv := { s.trv with state := .cruise, grace := none } } : State).raise .cadenceRestored := if_pos h

theorem State.keep_restored (h : s.TravelOk) (hl : s.trv.state = .limp) : (s.passBeat beat).restartCadence =
    { s.cadenceRestored with
      seg := { s.seg with lastBeat := some (decide (beat = 1)), cadence := some (s.paramNat .cadenceWindow) }
      dock := s.dock.idle } := by
  obtain ⟨hcruise, hyield⟩ := State.cadenceRestored_trv (.inr hl)
  rw [State.passBeat_limp hl h]
  have hqueue : s.seg.queue ≠ [] := h.1.mpr (.inr hl)
  have hnot : s.cadenceRestored.trv.yield = false := hyield.trans (h.yield_false (by rw [hl]; decide))
  rw [State.restartCadence, if_pos ⟨hcruise, hqueue, hnot⟩]
  rw [← s.cadenceRestored_paramNat .cadenceWindow]
  rfl

/-- Settles O26: by the beat check and the travel state. -/
theorem keepHoldsTheCadence : Obligations.KeepHoldsTheCadence := by
  unfold Obligations.KeepHoldsTheCadence
  intro s req beat hs htrv
  have htaken (g : State → State) (r : Reply) (hact : ∀ p : LinkPorts,
      keepAct beat.toNat { s with port := p } = (g { s with port := p }, r)) :=
    exec_taken hs (k := .keep) (payload := [req, beat]) (c := .keep [req, beat]) (by decide) rfl (by simp) rfl hact
  dsimp only
  refine ⟨fun h => ?_, fun h hlast => ?_, fun h hlimp => ?_, fun h hlimp => ?_⟩
  · exact htaken id ⟨.range, s.keepData⟩ fun port =>
      keepAct_unbeaten (u := { s with port := port }) (SegmentQueue.beatRefusal_range _ h)
  · exact htaken id ⟨.stale, s.keepData⟩ fun port =>
      keepAct_unbeaten (u := { s with port := port }) (SegmentQueue.beatRefusal_stale h hlast)
  · refine htaken (fun t => { t with seg := { t.seg with
      lastBeat := some (decide (beat.toNat = 1))
      cadence := if t.trv.state = .cruise ∧ t.trv.yield = false
        then some (t.paramNat .cadenceWindow) else t.seg.cadence } }) ⟨.ok, s.keepData⟩ fun port => ?_
    exact keepAct_fresh (u := { s with port := port }) h (State.keep_passed htrv hlimp)
  · have hcruise (port : LinkPorts) := (State.cadenceRestored_trv (s := { s with port := port }) (.inr hlimp)).1
    refine (htaken (fun t => { t.cadenceRestored with
        seg := { t.seg with
          lastBeat := some (decide (beat.toNat = 1)), cadence := some (t.paramNat .cadenceWindow) }
        dock := t.dock.idle }) ⟨.ok, [1, carry8 s.seg.queue.length]⟩ fun port => ?_).trans ?_
    · rw [keepAct_fresh (u := { s with port := port }) h (State.keep_restored htrv hlimp), State.keepData,
        hcruise port]
      rfl
    · rw [State.cadenceRestored_limp]
      · rfl
      · exact hlimp

end

end Sys2Proof.Machine
end

-- ==== Proofs: TILE_FILL and TILE_RUN ====
section
/-! What a run of tile writes at distinct tiles leaves (R10, R17), and from it the two tile requests (R12 to R16). -/

namespace Sys2Proof.Machine

section

variable {α : Type} {s : State} {override : Bool}

/-! ## One tile write (R10) -/

theorem tileOutcome_cases (old : Byte) (k : ClassNo) (override : Bool) :
    (tileOutcome old k override = .changed ↔ Changes old k override) ∧
      (tileOutcome old k override = .guarded ↔ Protects old override) := by
  rw [tileOutcome, Changes, Protects]
  cases tileObserved old <;> cases override
  case true.false | true.true => simp
  all_goals
    by_cases hl : old = loadedTile k
    · simp only [Bool.false_eq_true, if_false, if_pos hl]
      simp [hl]
    · simp only [Bool.false_eq_true, if_false, if_neg hl]
      simp [hl]

theorem tileOutcome_changed {old : Byte} {k : ClassNo} :
    tileOutcome old k override = .changed ↔ Changes old k override := (tileOutcome_cases old k override).1

theorem tileOutcome_guarded {old : Byte} {k : ClassNo} :
    tileOutcome old k override = .guarded ↔ Protects old override := (tileOutcome_cases old k override).2

/-- One write, by its outcome. -/
theorem TileTally.write_cases (t : TileTally) (tx ty : Nat) (k : ClassNo) :
    Changes (t.map.tile tx ty) k override ∧ ¬Protects (t.map.tile tx ty) override ∧
      t.write override tx ty k = { t with map := t.map.writeTile tx ty (loadedTile k), changed := t.changed + 1 } ∨
    ¬Changes (t.map.tile tx ty) k override ∧ Protects (t.map.tile tx ty) override ∧
      t.write override tx ty k = { t with guarded := t.guarded + 1 } ∨
    ¬Changes (t.map.tile tx ty) k override ∧ ¬Protects (t.map.tile tx ty) override ∧
      t.write override tx ty k = t := by
  rw [TileTally.write]
  rw [← tileOutcome_changed, ← tileOutcome_guarded (k := k)]
  show _ ∨ _ ∨ _
  cases h : tileOutcome (t.map.tile tx ty) k override
  · exact .inr (.inr ⟨by decide, by decide, by rw [show t.map.tiles.read (tileAddress tx ty) = t.map.tile tx ty from rfl, h]⟩)
  · exact .inl ⟨rfl, by decide, by rw [show t.map.tiles.read (tileAddress tx ty) = t.map.tile tx ty from rfl, h]⟩
  · exact .inr (.inl ⟨by decide, rfl, by rw [show t.map.tiles.read (tileAddress tx ty) = t.map.tile tx ty from rfl, h]⟩)

theorem TileMap.writeTile_dirty (m : TileMap) (tx ty : Nat) (b : Byte) (q : Page) :
    (m.writeTile tx ty b).dirty[q] = true ↔ m.dirty[q] = true ∨ tilePage tx ty = q := by
  by_cases h : tilePage tx ty = q
  · subst h; simp [TileMap.writeTile]
  · have hne : (tilePage tx ty : Nat) ≠ q := fun h' => h (Fin.ext h')
    simp [TileMap.writeTile, Vector.getElem_set_ne _ _ hne, h]

/-! ## Writes at distinct tiles -/

/-- What a run of writes of classes `k` at the places `at_` makes of a map and its counts (R10, R17). -/
structure Written (override : Bool) (place : α → Nat × Nat) (k : α → ClassNo) (l : List α) (t u : TileTally) : Prop where
  ok : u.map.Ok
  classes : u.map.classes = t.map.classes
  written : ∀ a ∈ l, u.map.tile (place a).1 (place a).2 =
    if Changes (t.map.tile (place a).1 (place a).2) (k a) override then loadedTile (k a)
    else t.map.tile (place a).1 (place a).2
  kept : ∀ tx ty, tx < 256 → ty < 256 → (∀ a ∈ l, place a ≠ (tx, ty)) → u.map.tile tx ty = t.map.tile tx ty
  dirty : ∀ q : Page, u.map.dirty[q] = true ↔ t.map.dirty[q] = true ∨
    ∃ a ∈ l, Changes (t.map.tile (place a).1 (place a).2) (k a) override ∧ tilePage (place a).1 (place a).2 = q
  changed : u.changed = t.changed +
    l.countP fun a => decide (Changes (t.map.tile (place a).1 (place a).2) (k a) override)
  guarded : u.guarded = t.guarded +
    l.countP fun a => decide (Protects (t.map.tile (place a).1 (place a).2) override)

theorem write_written (place : α → Nat × Nat) (k : α → ClassNo) (a : α) {t : TileTally} (ht : t.map.Ok)
    (ha : (place a).1 < 256 ∧ (place a).2 < 256) :
    Written override place k [a] t (t.write override (place a).1 (place a).2 (k a)) := by
  rcases t.write_cases (override := override) (place a).1 (place a).2 (k a) with
    ⟨hc, hp, hw⟩ | ⟨hc, hp, hw⟩ | ⟨hc, hp, hw⟩
  · rw [hw]
    refine ⟨TileMap.writeTile_ok ht _ _ (loadedTile_ok _), rfl, ?_, ?_, ?_, by simp [hc], by simp [hp]⟩
    · simpa [hc] using TileMap.tile_writeTile_same ht _ _ _
    · intro tx ty hx hy hne
      refine TileMap.tile_writeTile_other _ ha.1 ha.2 hx hy (fun h => ?_) _
      exact hne a (List.mem_singleton_self a) (Prod.ext h.1.symm h.2.symm)
    · intro q
      rw [TileMap.writeTile_dirty]
      simp [hc]
  · rw [hw]
    exact ⟨ht, rfl, by simp [hc], fun _ _ _ _ _ => rfl, by simp [hc], by simp [hc], by simp [hp]⟩
  · rw [hw]
    exact ⟨ht, rfl, by simp [hc], fun _ _ _ _ _ => rfl, by simp [hc], by simp [hc], by simp [hp]⟩

/-- A write, then a run of writes at other places. -/
theorem Written.cons {place : α → Nat × Nat} {k : α → ClassNo} {a : α} {l : List α} {t u v : TileTally}
    (ha : Written override place k [a] t u) (hl : Written override place k l u v)
    (hnew : ∀ b ∈ l, place b ≠ place a) (hrange : ∀ b ∈ a :: l, (place b).1 < 256 ∧ (place b).2 < 256) :
    Written override place k (a :: l) t v := by
  have hrest : ∀ b ∈ l, u.map.tile (place b).1 (place b).2 = t.map.tile (place b).1 (place b).2 := fun b hb =>
    have ⟨hx, hy⟩ := hrange b (List.mem_cons_of_mem _ hb)
    ha.kept _ _ hx hy fun c hc => by rw [List.mem_singleton.mp hc]; exact (hnew b hb).symm
  obtain ⟨hax, hay⟩ := hrange a List.mem_cons_self
  refine ⟨hl.ok, hl.classes.trans ha.classes, fun b hb => ?_, fun tx ty hx hy hne => ?_, fun q => ?_, ?_, ?_⟩
  · rcases List.mem_cons.mp hb with rfl | hb
    · rw [hl.kept _ _ hax hay hnew]
      exact ha.written b (List.mem_singleton_self b)
    · rw [hl.written b hb, hrest b hb]
  · rw [hl.kept tx ty hx hy fun b hb => hne b (List.mem_cons_of_mem _ hb)]
    exact ha.kept tx ty hx hy fun b hb => hne b (List.mem_singleton.mp hb ▸ List.mem_cons_self)
  · have hchanges : (∃ b ∈ l, Changes (u.map.tile (place b).1 (place b).2) (k b) override ∧
          tilePage (place b).1 (place b).2 = q) ↔
        ∃ b ∈ l, Changes (t.map.tile (place b).1 (place b).2) (k b) override ∧
          tilePage (place b).1 (place b).2 = q :=
      exists_congr fun b => and_congr_right fun hb => by rw [hrest b hb]
    rw [hl.dirty, ha.dirty, hchanges, or_assoc]
    refine or_congr_right ?_
    simp only [List.mem_cons, List.not_mem_nil, or_false, exists_eq_left, or_and_right, exists_or]
  · rw [hl.changed, ha.changed, List.countP_congr (l := l) fun b hb => by rw [hrest b hb], Nat.add_assoc]
    exact congrArg (t.changed + ·) (List.countP_append (l₁ := [a])).symm
  · rw [hl.guarded, ha.guarded, List.countP_congr (l := l) fun b hb => by rw [hrest b hb], Nat.add_assoc]
    exact congrArg (t.guarded + ·) (List.countP_append (l₁ := [a])).symm

theorem foldl_write_written (place : α → Nat × Nat) (k : α → ClassNo) :
    ∀ (l : List α) (t : TileTally), t.map.Ok → (l.map place).Nodup →
      (∀ a ∈ l, (place a).1 < 256 ∧ (place a).2 < 256) →
      Written override place k l t (l.foldl (fun t a => t.write override (place a).1 (place a).2 (k a)) t) := by
  intro l
  induction l with
  | nil =>
    intro t ht _ _
    exact ⟨ht, rfl, by simp, fun _ _ _ _ _ => rfl, by simp, rfl, rfl⟩
  | cons a l ih =>
    intro t ht hnodup hrange
    obtain ⟨hnew, hnodup⟩ := List.nodup_cons.mp (show (place a :: l.map place).Nodup from hnodup)
    have hfirst := write_written (override := override) place k a ht (hrange a List.mem_cons_self)
    exact hfirst.cons (ih _ hfirst.ok hnodup fun b hb => hrange b (List.mem_cons_of_mem _ hb))
      (fun b hb h => hnew (h ▸ List.mem_map_of_mem hb)) hrange

/-! ## The tiles of a rectangle (R13) -/

/-- The places of the columns `xs` in the rows `ys`, row by row. -/
def grid (xs ys : List Nat) : List (Nat × Nat) := ys.flatMap fun y => xs.map fun x => (x, y)

theorem mem_grid {xs ys : List Nat} {a : Nat × Nat} : a ∈ grid xs ys ↔ a.1 ∈ xs ∧ a.2 ∈ ys := by
  obtain ⟨x, y⟩ := a
  simp [grid, and_comm]

theorem nodup_grid {xs ys : List Nat} (hx : xs.Nodup) (hy : ys.Nodup) : (grid xs ys).Nodup := by
  refine List.nodup_flatMap.mpr ⟨fun y _ => hx.map fun x x' h => congrArg Prod.fst h, hy.imp fun {y y'} hne => ?_⟩
  refine List.disjoint_left.mpr fun a ha ha' => ?_
  obtain ⟨x, -, rfl⟩ := List.mem_map.mp ha
  obtain ⟨x', -, h⟩ := List.mem_map.mp ha'
  exact hne (congrArg Prod.snd h).symm

theorem mem_span {lo hi n : Nat} : n ∈ span lo hi ↔ lo ≤ n ∧ n ≤ hi := by
  rw [span, List.mem_range'_1]
  omega

theorem nodup_span (lo hi : Nat) : (span lo hi).Nodup := List.nodup_range'

theorem FillFields.mem_tiles (f : FillFields) {a : Nat × Nat} :
    a ∈ f.tiles ↔ f.tx0 ≤ a.1 ∧ a.1 ≤ f.tx1 ∧ f.ty0 ≤ a.2 ∧ a.2 ≤ f.ty1 := by
  rw [FillFields.tiles, List.mem_flatMap]
  constructor
  · rintro ⟨piece, -, ha⟩
    obtain ⟨hx, hy⟩ := mem_grid.mp ha
    rw [mem_span] at hx hy
    omega
  · intro h
    refine ⟨(a.1 / 16, a.2 / 16), mem_grid.mpr ?_, mem_grid.mpr ?_⟩ <;>
    · simp only [mem_span]
      omega

/-- Two pieces lie in two pages, so the fill writes each of its tiles once. -/
theorem FillFields.nodup_tiles (f : FillFields) : f.tiles.Nodup := by
  refine List.nodup_flatMap.mpr ⟨fun piece _ => nodup_grid (nodup_span _ _) (nodup_span _ _), ?_⟩
  refine List.Pairwise.imp (fun {q r} hne => ?_) (nodup_grid (nodup_span _ _) (nodup_span _ _) : f.pieces.Nodup)
  refine List.disjoint_left.mpr fun a ha ha' => hne (Prod.ext ?_ ?_) <;>
  · obtain ⟨hx, hy⟩ := mem_grid.mp ha
    obtain ⟨hx', hy'⟩ := mem_grid.mp ha'
    rw [mem_span] at hx hy hx' hy'
    omega

theorem FillFields.length_pieces (f : FillFields) (hx : f.tx0 ≤ f.tx1) (hy : f.ty0 ≤ f.ty1) :
    f.pieces.length = (f.tx1 / 16 - f.tx0 / 16 + 1) * (f.ty1 / 16 - f.ty0 / 16 + 1) := by
  rw [FillFields.pieces, length_flatMap_rows fun _ => List.length_map _, length_span (by omega), length_span (by omega)]

/-- A count over the rectangle is a count over the map of what lies in it. -/
theorem FillFields.countP_tiles (f : FillFields) (hx : f.tx1 < 256) (hy : f.ty1 < 256) (P : Nat × Nat → Prop)
    [DecidablePred P] :
    f.tiles.countP (fun a => decide (P a)) = (grid (List.range 256) (List.range 256)).countP fun a =>
      decide ((f.tx0 ≤ a.1 ∧ a.1 ≤ f.tx1 ∧ f.ty0 ≤ a.2 ∧ a.2 ≤ f.ty1) ∧ P a) := by
  have hperm : List.Perm f.tiles ((grid (List.range 256) (List.range 256)).filter fun a =>
      decide (f.tx0 ≤ a.1 ∧ a.1 ≤ f.tx1 ∧ f.ty0 ≤ a.2 ∧ a.2 ≤ f.ty1)) := by
    refine (List.perm_ext_iff_of_nodup f.nodup_tiles
      ((nodup_grid List.nodup_range List.nodup_range).filter _)).mpr fun a => ?_
    rw [f.mem_tiles, List.mem_filter, mem_grid, List.mem_range, List.mem_range, decide_eq_true_iff]
    omega
  rw [hperm.countP_eq, List.countP_filter]
  refine List.countP_congr fun a _ => ?_
  simp only [Bool.and_eq_true, decide_eq_true_iff, and_comm]

theorem lengthRefusal_none {k : NKind} (hk : k ≠ .query) {payload : List Byte} (h : layoutAllows k payload = true) :
    lengthRefusal k payload = none := (lengthRefusal_eq hk payload).trans (if_pos h)

/-! ## TILE_FILL (R12 to R14) -/

theorem FillFields.refused_iff (f : FillFields) :
    f.refused = true ↔ f.tx1 < f.tx0 ∨ f.ty1 < f.ty0 ∨ 15 < f.cls ∨ 1 < f.override := by
  simp only [FillFields.refused, Bool.or_eq_true, decide_eq_true_iff, or_assoc]

theorem FillFields.read_range (p : List Byte) :
    (FillFields.read p).tx1 < 256 ∧ (FillFields.read p).ty1 < 256 := ⟨BitVec.isLt _, BitVec.isLt _⟩

/-- The fill's run of writes. -/
theorem FillFields.apply_written (f : FillFields) (hx : f.tx1 < 256) (hy : f.ty1 < 256) {m : TileMap} (hm : m.Ok) :
    Written (decide (f.override = 1)) id (fun _ => classNo f.cls) f.tiles ⟨m, 0, 0⟩ (f.apply m) := by
  refine foldl_write_written id _ f.tiles _ hm ((List.map_id f.tiles).symm ▸ f.nodup_tiles) fun a ha => ?_
  obtain ⟨-, hx1, -, hy1⟩ := f.mem_tiles.mp ha
  exact ⟨hx1.trans_lt hx, hy1.trans_lt hy⟩

/-- Settles O31: the fill is a run of writes at the tiles of its pieces, which are the tiles of its rectangle, each once. -/
theorem tileFillWritesItsRectangle : Obligations.TileFillWritesItsRectangle := by
  unfold Obligations.TileFillWritesItsRectangle
  intro s p hs hm hp
  have hne : p ≠ [] := List.ne_nil_of_length_pos (hp ▸ by decide)
  have hlen : lengthRefusal .tileFill p = none := lengthRefusal_none (by decide) (by simp [layoutAllows, hp])
  have htaken (g : State → State) (r : Reply)
      (hact : ∀ q : LinkPorts, tileFillAct (.read p) { s with port := q } = (g { s with port := q }, r)) :=
    exec_taken hs (k := .tileFill) (c := .tileFill p) (by decide) rfl hne hlen hact
  rw [hp] at htaken
  dsimp only
  generalize hf : FillFields.read p = f at htaken
  have hrange := FillFields.read_range p
  rw [hf] at hrange
  split
  next href => exact htaken id _ fun q => if_pos (f.refused_iff.mpr href)
  next href =>
    have hw := f.apply_written hrange.1 hrange.2 hm
    have hpieces := f.length_pieces (by omega) (by omega)
    have hchanged := hw.changed.trans (congrArg (0 + ·) (f.countP_tiles hrange.1 hrange.2 _))
    have hguarded := hw.guarded.trans (congrArg (0 + ·) (f.countP_tiles hrange.1 hrange.2 _))
    rw [Nat.zero_add] at hchanged hguarded
    refine ⟨(f.apply s.map).map, ?_, hw.ok, hw.classes, fun tx ty hx hy => ?_, fun q => ?_⟩
    · have := htaken (fun t => { t with map := (f.apply s.map).map })
        ⟨.ok, carry16 f.pieces.length ++ carry32 (f.apply s.map).changed ++ carry32 (f.apply s.map).guarded⟩
        fun q => if_neg (mt f.refused_iff.mp href)
      rw [hpieces, hchanged, hguarded] at this
      exact this
    · by_cases hin : f.tx0 ≤ tx ∧ tx ≤ f.tx1 ∧ f.ty0 ≤ ty ∧ ty ≤ f.ty1
      · simp only [hin, true_and, and_self]
        exact hw.written (tx, ty) (f.mem_tiles.mpr hin)
      · rw [if_neg fun h => hin h.1]
        exact hw.kept tx ty hx hy fun a ha h => hin (f.mem_tiles.mp ((show a = (tx, ty) from h) ▸ ha))
    · rw [hw.dirty]
      refine or_congr_right ⟨fun ⟨a, ha, hc, hq⟩ => ?_, fun ⟨tx, ty, _, _, ⟨hin, hc⟩, hq⟩ => ?_⟩
      · have hin := f.mem_tiles.mp ha
        exact ⟨a.1, a.2, by omega, by omega, ⟨hin, hc⟩, hq⟩
      · exact ⟨(tx, ty), f.mem_tiles.mpr hin, hc, hq⟩

/-! ## TILE_RUN (R15, R16) -/

theorem RunFields.refused_iff (f : RunFields) : f.refused = true ↔
    f.count = 0 ∨ 190 < f.count ∨ (∃ v ∈ f.values, 15 < v) ∨ 1 < f.override := by
  simp [RunFields.refused, or_assoc]

theorem RunFields.refused_read_iff {p : List Byte} (hlen : p.length = 5 + (byteAt p 4).toNat) (hmax : p.length ≤ 195) :
    (RunFields.read p).refused = true ↔
      (byteAt p 4).toNat = 0 ∨ (∃ b ∈ p.drop 5, 15 < b.toNat) ∨ 1 < (byteAt p 3).toNat := by
  have hcount : ¬190 < (byteAt p 4).toNat := by omega
  simp [RunFields.refused_iff, RunFields.read, hcount, -List.map_drop]

theorem filter_range_add_le (tx : Nat) : ∀ count : Nat,
    (List.range count).filter (fun i => decide (tx + i ≤ 255)) = List.range (min count (256 - tx))
  | 0 => by simp
  | count + 1 => by
    rw [List.range_succ, List.filter_append, filter_range_add_le tx count]
    by_cases h : tx + count ≤ 255
    · rw [Nat.min_eq_left (by omega), Nat.min_eq_left (by omega), List.range_succ]
      simp [h]
    · rw [Nat.min_eq_right (by omega), Nat.min_eq_right (by omega)]
      simp [h]

/-- The values that fall on the map are the first of the run (R16). -/
theorem RunFields.placed_read {p : List Byte} (hlen : p.length = 5 + (byteAt p 4).toNat) :
    (RunFields.read p).placed = (List.range (min (byteAt p 4).toNat (256 - (byteAt p 1).toNat))).map
      fun i => ((byteAt p 1).toNat + i, (byteAt p (5 + i)).toNat) := by
  have hentries : (RunFields.read p).values.zipIdx.map (fun e => ((byteAt p 1).toNat + e.2, e.1)) =
      (List.range (byteAt p 4).toNat).map fun i => ((byteAt p 1).toNat + i, (byteAt p (5 + i)).toNat) := by
    refine List.ext_getElem (by simp [RunFields.read, hlen]) fun i h _ => ?_
    have hi : 5 + i < p.length := by
      simp only [List.length_map, List.length_zipIdx, RunFields.read, List.length_drop] at h
      omega
    simp [RunFields.read, byteAt, hi]
  rw [RunFields.placed, show (RunFields.read p).tx = (byteAt p 1).toNat from rfl, hentries, List.filter_map,
    ← filter_range_add_le]
  rfl

/-- The run's writes, by the position of their value. -/
theorem RunFields.apply_written {p : List Byte} (hlen : p.length = 5 + (byteAt p 4).toNat) {m : TileMap} (hm : m.Ok) :
    Written (decide ((byteAt p 3).toNat = 1)) (fun i => ((byteAt p 1).toNat + i, (byteAt p 2).toNat))
      (fun i => classNo (byteAt p (5 + i)).toNat)
      (List.range (min (byteAt p 4).toNat (256 - (byteAt p 1).toNat))) ⟨m, 0, 0⟩ ((RunFields.read p).apply m) := by
  rw [RunFields.apply, placed_read hlen, List.foldl_map]
  refine foldl_write_written _ _ _ _ hm ?_ fun i hi => ?_
  · exact List.nodup_range.map fun i j h => Nat.add_left_cancel (congrArg Prod.fst h)
  · have := List.mem_range.mp hi
    exact ⟨by dsimp only; omega, BitVec.isLt _⟩

/-- Settles O32: the run is a run of writes at the tiles from tx on along its row. -/
theorem tileRunWritesItsRow : Obligations.TileRunWritesItsRow := by
  unfold Obligations.TileRunWritesItsRow
  intro s p hs hm hmin hmax hp
  have hne : p ≠ [] := List.ne_nil_of_length_pos (by omega)
  have hlen : lengthRefusal .tileRun p = none :=
    lengthRefusal_none (by decide) (decide_eq_true ⟨hmin, hmax, hp⟩)
  have htaken (g : State → State) (r : Reply)
      (hact : ∀ q : LinkPorts, tileRunAct (.read p) { s with port := q } = (g { s with port := q }, r)) :=
    exec_taken hs (k := .tileRun) (c := .tileRun p) (by decide) rfl hne hlen hact
  have hrefused := RunFields.refused_read_iff hp hmax
  have hplaced : (RunFields.read p).placed.length = min (byteAt p 4).toNat (256 - (byteAt p 1).toNat) := by
    rw [RunFields.placed_read hp, List.length_map, List.length_range]
  have hvalues : (RunFields.read p).values.length = (byteAt p 4).toNat := by simp [RunFields.read, hp]
  have hw := RunFields.apply_written hp hm
  dsimp only
  generalize RunFields.read p = f at *
  generalize min (byteAt p 4).toNat (256 - (byteAt p 1).toNat) = placed at *
  split
  next href => exact htaken id _ fun q => if_pos (hrefused.mpr href)
  next href =>
    refine ⟨(f.apply s.map).map, ?_, hw.ok, hw.classes, fun i hi => ?_, fun x y hx hy hout => ?_, fun q => ?_⟩
    · have := htaken (fun t => { t with map := (f.apply s.map).map })
        ⟨.okOr (decide (f.placed.length < f.values.length)),
          [carry8 f.placed.length, carry8 (f.apply s.map).changed, carry8 (f.apply s.map).guarded]⟩
        fun q => if_neg (mt hrefused.mp href)
      rw [hplaced, hvalues, hw.changed, hw.guarded, Nat.zero_add, Nat.zero_add] at this
      simpa only [ReplyCode.okOr, decide_eq_true_iff] using this
    · exact hw.written i (List.mem_range.mpr hi)
    · refine hw.kept x y hx hy fun i hi h => hout ?_
      obtain ⟨rfl, rfl⟩ := Prod.mk.inj h
      have := List.mem_range.mp hi
      omega
    · rw [hw.dirty]
      exact or_congr_right ⟨fun ⟨i, hi, h⟩ => ⟨i, List.mem_range.mp hi, h⟩, fun ⟨i, hi, h⟩ => ⟨i, List.mem_range.mpr hi, h⟩⟩

end

end Sys2Proof.Machine
end

-- ==== Proofs: CLASS, BEACON, CONFIG and MASK ====
section
/-! What the table loads and the settings store, and what their replies carry (R18 to R20, R139, R167, R182). -/

namespace Sys2Proof.Machine

section

variable {s : State}

/-! ## Carried numbers (R176) -/

theorem extractLsb'_append_low {n : Nat} (x : BitVec n) (lo : Byte) : (x ++ lo).extractLsb' 0 8 = lo := by
  ext i hi
  simp [BitVec.getLsbD_append, hi]

theorem extractLsb'_append_high {n : Nat} (x : BitVec n) (lo : Byte) (k : Nat) :
    (x ++ lo).extractLsb' (8 + k) 8 = x.extractLsb' k 8 := by
  ext i hi
  have hle : ¬8 + k + i < 8 := by omega
  have hsub : 8 + k + i - 8 = k + i := by omega
  simp [BitVec.getLsbD_append, hle, hsub]

theorem bytes16_append (lo hi : Byte) : bytes16 (hi ++ lo) = [lo, hi] := by
  rw [bytes16, extractLsb'_append_low, extractLsb'_append_high hi lo 0, BitVec.extractLsb'_eq_self]

theorem bytes32_append (b0 b1 b2 b3 : Byte) : bytes32 (b3 ++ b2 ++ b1 ++ b0) = [b0, b1, b2, b3] := by
  rw [bytes32, extractLsb'_append_low, extractLsb'_append_high (b3 ++ b2 ++ b1) b0 0, extractLsb'_append_low,
    extractLsb'_append_high (b3 ++ b2 ++ b1) b0 8, extractLsb'_append_high (b3 ++ b2) b1 0, extractLsb'_append_low,
    extractLsb'_append_high (b3 ++ b2 ++ b1) b0 16, extractLsb'_append_high (b3 ++ b2) b1 8,
    extractLsb'_append_high b3 b2 0, BitVec.extractLsb'_eq_self]

theorem carry16_unsigned16 (lo hi : Byte) : carry16 (unsigned16 lo hi) = [lo, hi] := by
  rw [carry16, ← bytes16_append, BitVec.ofInt_natCast]
  refine congrArg bytes16 (BitVec.eq_of_toNat_eq ?_)
  rw [BitVec.toNat_ofNat, BitVec.toNat_append, ← Nat.shiftLeft_add_eq_or_of_lt lo.isLt, Nat.shiftLeft_eq, unsigned16]
  omega

theorem carry16_signed16 (lo hi : Byte) : carry16 (signed16 lo hi) = [lo, hi] := by
  rw [carry16, signed16, BitVec.ofInt_toInt, bytes16_append]

theorem carry32_signed32 (b0 b1 b2 b3 : Byte) : carry32 (signed32 b0 b1 b2 b3) = [b0, b1, b2, b3] := by
  rw [carry32, signed32, BitVec.ofInt_toInt, bytes32_append]

/-! ## CLASS (R18 to R20) -/

theorem ClassFields.read_asCarried : ∀ {p : List Byte}, p.length = 9 → (ClassFields.read p).asCarried = p.drop 1
  | [_, _, _, _, _, _, _, _, _], _ => by
    simp [ClassFields.read, ClassFields.asCarried, byteAt, unsignedAt, carry16_unsigned16]

theorem BeaconFields.read_asCarried : ∀ {p : List Byte}, p.length = 7 →
    [carry8 (BeaconFields.read p).left, carry8 (BeaconFields.read p).right] ++ carry16 (BeaconFields.read p).v ++
      carry16 (BeaconFields.read p).w = p.drop 1
  | [_, _, _, _, _, _, _], _ => by simp [BeaconFields.read, byteAt, signedAt, carry16_signed16]

theorem config_asCarried : ∀ {p : List Byte}, p.length = 6 → byteAt p 1 :: carry32 (signed32At p 2) = p.drop 1
  | [_, _, _, _, _, _], _ => by simp [byteAt, signed32At, carry32_signed32]

theorem alwaysBlocks_classNo {n : Nat} (h : n ≤ 15) : alwaysBlocks (classNo n) = decide (n = 6 ∨ n = 8) := by
  interval_cases n <;> rfl

theorem ClassFields.clamps_iff {f : ClassFields} (h : f.cls ≤ 15) : f.clamps = true ↔
    1 < f.blocks ∨ 700 < f.cap ∨ 3 < f.brush ∨ 1 < f.side ∨ 1023 < f.cliff ∨
      f.blocks = 0 ∧ (f.cls = 6 ∨ f.cls = 8) := by
  simp only [ClassFields.clamps, alwaysBlocks_classNo h, Bool.or_eq_true, Bool.and_eq_true, decide_eq_true_iff, or_assoc]

/-- The record a CLASS request stores, as R18 and R19 put it. -/
theorem ClassFields.record_eq {f : ClassFields} (h : f.cls ≤ 15) : f.record =
    { blocks := decide (f.blocks ≠ 0 ∨ f.cls = 6 ∨ f.cls = 8), cap := min f.cap 700
      brush := if f.brush = 0 then .off else if f.brush = 1 then .low else if f.brush = 2 then .normal else .high
      side := decide (f.side ≠ 0), cliff := min f.cliff 1023 } := by
  rw [ClassFields.record, alwaysBlocks_classNo h, Brush.ofNumber_eq, ← Bool.decide_or]

theorem ReplyCode.okOr_decide (P : Prop) [Decidable P] : ReplyCode.okOr (decide P) = if P then .clamped else .ok := by
  simp [ReplyCode.okOr]

/-- Settles O33: each record as stored is the clamped one, and its reply carries it. -/
theorem classAndBeaconRecordsAreStoredClamped : Obligations.ClassAndBeaconRecordsAreStoredClamped := by
  unfold Obligations.ClassAndBeaconRecordsAreStoredClamped
  refine ⟨fun s p hs hp => ?_, fun s p hs hp => ?_⟩
  · have htaken (g : State → State) (r : Reply)
        (hact : ∀ q : LinkPorts, classAct (.read p) { s with port := q } = (g { s with port := q }, r)) :=
      exec_taken hs (k := .classRecord) (c := .classRecord p) (by decide) rfl (List.ne_nil_of_length_pos (hp ▸ by decide))
        (lengthRefusal_none (by decide) (by simp [layoutAllows, hp])) hact
    rw [hp] at htaken
    have hcarried := ClassFields.read_asCarried hp
    intro f fixed r moved
    split
    next h =>
      rw [← hcarried]
      exact htaken id ⟨.range, f.asCarried⟩ fun q => if_pos h
    next h =>
      have := htaken (fun t => { t with map := { s.map with classes := s.map.classes.set (classNo f.cls) f.record } })
        ⟨.okOr f.clamps, carry8 f.cls :: f.record.data⟩ fun q => if_neg h
      simp only [ReplyCode.okOr, ClassFields.clamps_iff (Nat.not_lt.mp h), ClassFields.record_eq (Nat.not_lt.mp h)] at this
      exact this
  · have htaken (g : State → State) (r : Reply)
        (hact : ∀ q : LinkPorts, beaconAct (.read p) { s with port := q } = (g { s with port := q }, r)) :=
      exec_taken hs (k := .beacon) (c := .beacon p) (by decide) rfl (List.ne_nil_of_length_pos (hp ▸ by decide))
        (lengthRefusal_none (by decide) (by simp [layoutAllows, hp])) hact
    rw [hp] at htaken
    have hcarried := BeaconFields.read_asCarried hp
    intro left right v w e
    split
    next h =>
      rw [← hcarried]
      exact htaken id ⟨.range, _⟩ fun q => if_pos h
    next h =>
      have hentry : (BeaconFields.read p).entry = e := by
        simp only [BeaconFields.entry, clampInt_eq (by decide : (-100 : Int) ≤ 150),
          clampInt_eq (by decide : (-1500 : Int) ≤ 1500)]
        rfl
      have hcode : ReplyCode.okOr (decide (e.v ≠ v) || decide (e.w ≠ w)) =
          if e.v = v ∧ e.w = w then .ok else .clamped := by
        rw [ReplyCode.okOr]
        split_ifs <;> simp_all
      have := htaken (fun t => { t with dock := { s.dock with beacon := s.dock.beacon.set (beaconIndex left right) e } })
        ⟨.okOr (decide (e.v ≠ v) || decide (e.w ≠ w)), [carry8 left, carry8 right] ++ carry16 e.v ++ carry16 e.w⟩
        fun q => (if_neg h).trans (by rw [hentry]; rfl)
      rw [hcode] at this
      exact this

/-! ## CONFIG (R171, R172, R182) -/

theorem Param.stored_eq (q : Param) (value : Int) : q.stored value =
    if q = .restPeriod then max q.row.lo (min q.row.hi value) - max q.row.lo (min q.row.hi value) % 10
    else max q.row.lo (min q.row.hi value) := by
  rw [Param.stored, clampInt_eq (paramTable_row q.row q.row_mem.1).2]
  split
  · omega
  · rfl

theorem State.teleInterval_setParam {v : Int} (hv : 0 ≤ v) (s : State) :
    (s.setParam .telePeriod v).teleInterval = if v = 0 then none else some (10 * v.toNat) := by
  have hparam : (s.setParam .telePeriod v).paramNat .telePeriod = v.toNat := by
    rw [State.paramNat, State.param_setParam, if_pos rfl]
  have hzero : v.toNat = 0 ↔ v = 0 := by omega
  simp only [State.teleInterval, hparam, hzero]

/-- What a stored value does beside standing in the table (R171, R172). -/
theorem State.configured_setParam {q : Param} {v : Int} (hv : q = .telePeriod → 0 ≤ v) (s : State) :
    State.configured q (s.setParam q v) =
    { s with
      params := s.params.set q.index v
      rep := if q = .telePeriod ∧ s.rep.tele = none then
          { s.rep with tele := if v = 0 then none else some (10 * v.toNat) }
        else if q = .forwardDecim then { s.rep with fwd := 0 } else s.rep } := by
  cases q
  case telePeriod =>
    rw [← State.teleInterval_setParam (hv rfl) s]
    by_cases h : s.rep.tele = none
    · simp only [State.configured, State.setParam, h, and_self, if_true]
    · simp only [State.configured, State.setParam, h, and_false, reduceCtorEq, if_false]
  all_goals rfl

theorem configAct_none {id : Byte} (h : Param.ofId id = none) (value : Int) (s : State) :
    configAct id value s = (s, ⟨.range, id :: carry32 value⟩) := by
  simp only [configAct, h]

theorem configAct_refused {id : Byte} {q : Param} (h : Param.ofId id = some q)
    (hrefused : (q.row.geometry && !s.trv.state.allowsGeometry) = true) (value : Int) :
    configAct id value s = (s, ⟨.state, id :: carry32 (s.param q)⟩) := by
  simp only [configAct, h, hrefused, if_true]

theorem configAct_stored {id : Byte} {q : Param} (h : Param.ofId id = some q)
    (htaken : (q.row.geometry && !s.trv.state.allowsGeometry) ≠ true) (value : Int) :
    configAct id value s = (State.configured q (s.setParam q (q.stored value)),
      ⟨.okOr (decide (q.stored value ≠ value)), id :: carry32 (q.stored value)⟩) := by
  simp only [configAct, h, if_neg htaken]
  rfl

/-- Settles O35: the table of parameters by evaluation, then the refusals and the stored value. -/
theorem configStoresAClampedValue : Obligations.ConfigStoresAClampedValue := by
  unfold Obligations.ConfigStoresAClampedValue
  refine ⟨⟨by decide, by decide, by decide, by decide⟩, fun s p hs hp => ?_⟩
  have htaken (g : State → State) (r : Reply)
      (hact : ∀ q : LinkPorts, configAct (byteAt p 1) (signed32At p 2) { s with port := q } = (g { s with port := q }, r)) :=
    exec_taken hs (k := .config) (c := .config p) (by decide) rfl (List.ne_nil_of_length_pos (hp ▸ by decide))
      (lengthRefusal_none (by decide) (by simp [layoutAllows, hp])) hact
  rw [hp] at htaken
  intro id value still
  cases hid : Param.ofId id with
  | none =>
    have := htaken (fun t => t) ⟨.range, id :: carry32 value⟩ fun q => configAct_none hid value _
    rwa [config_asCarried hp] at this
  | some q =>
    have hrefused : (q.row.geometry && !s.trv.state.allowsGeometry) = true ↔ q.row.geometry = true ∧ ¬still := by
      simp only [Travel.allowsGeometry, Bool.and_eq_true, Bool.not_eq_true', ← Bool.not_eq_true, Bool.or_eq_true,
        beq_iff_eq, or_assoc, still]
    simp only [← hrefused]
    split
    next h => exact htaken (fun t => t) ⟨.state, id :: carry32 (s.param q)⟩ fun p =>
        configAct_refused (s := { s with port := p }) hid h value
    next h =>
      have hstored := htaken (fun t => State.configured q (t.setParam q (q.stored value)))
        ⟨.okOr (decide (q.stored value ≠ value)), id :: carry32 (q.stored value)⟩ fun p =>
        configAct_stored (s := { s with port := p }) hid h value
      have hv : q = .telePeriod → 0 ≤ q.stored value := by
        rintro rfl
        exact (Param.stored_range _ value).1
      rw [State.configured_setParam hv] at hstored
      have hcode (v : Int) : ReplyCode.okOr (decide (v ≠ value)) = if v = value then .ok else .clamped := by
        rw [ReplyCode.okOr_decide, ite_not]
      rw [hcode] at hstored
      rw [Param.stored_eq] at hstored
      exact hstored

/-! ## MASK (R167) -/

theorem maskByte_masksOf (b : Byte) (h : s.rep.masks = masksOf b) : s.maskByte = b := by
  have hall : ∀ b : Byte, ReportClass.all.foldl
      (fun r c => if (masksOf b)[c.number] then r ||| BitVec.twoPow 8 c.number else r) (0 : Byte) = b := by decide
  rw [State.maskByte, h]
  exact hall b

/-- A release looks at the output queue's length alone. -/
theorem State.releaseClass_withPort (s : State) (c : ReportClass) (p : LinkPorts) (hp : p.out.length = s.queued) :
    ∃ q, ({ s with port := p } : State).releaseClass c = { s.releaseClass c with port := q } ∧
      q.out.length = (s.releaseClass c).queued := by
  have hqueued : ({ s with port := p } : State).queued = s.queued := hp
  simp only [State.releaseClass, hqueued]
  cases s.rep.held[c.number] with
  | none => exact ⟨p, rfl, hp⟩
  | some r =>
    dsimp only
    split
    · exact ⟨{ p with out := p.out ++ [noteFrame r.note r.count] }, rfl, by
        simp only [State.queued, State.pushUp, List.length_append] at hp ⊢; omega⟩
    · exact ⟨p, rfl, hp⟩

theorem State.foldl_releaseClass_withPort (cs : List ReportClass) : ∀ (s : State) (p : LinkPorts),
    p.out.length = s.queued → (cs.foldl State.releaseClass { s with port := p }).rep = (cs.foldl State.releaseClass s).rep := by
  induction cs with
  | nil => exact fun _ _ _ => rfl
  | cons c cs ih =>
    intro s p hp
    obtain ⟨q, hq, hlen⟩ := s.releaseClass_withPort c p hp
    rw [List.foldl_cons, List.foldl_cons, hq]
    exact ih _ q hlen

/-- The masks set and the pending unmasked classes released (R167). -/
def State.opened (masks : Byte) (s : State) : State :=
  ({ s with rep := { s.rep with masks := masksOf masks, enable := true } } : State).release

theorem State.opened_maskData (masks : Byte) (s : State) :
    (s.opened masks).maskData = [masks, 1, (s.opened masks).pendingClasses] := by
  have hreports := ({ s with rep := { s.rep with masks := masksOf masks, enable := true } } : State).release_onlyReports
  have hmasks : (s.opened masks).rep.masks = masksOf masks := by rw [State.opened, hreports]
  have henable : (s.opened masks).rep.enable = true := by rw [State.opened, hreports]
  rw [State.maskData, maskByte_masksOf masks hmasks, henable]
  rfl

/-- The classes still pending do not hang on the frame that joined the queue. -/
theorem State.opened_pushUp_pendingClasses (masks : Byte) (s : State) (f f' : Frame) :
    ((s.pushUp f).opened masks).pendingClasses = ((s.pushUp f').opened masks).pendingClasses := by
  have hrep : ((s.pushUp f).opened masks).rep = ((s.pushUp f').opened masks).rep :=
    State.foldl_releaseClass_withPort ReportClass.all
      { s.pushUp f' with rep := { s.rep with masks := masksOf masks, enable := true } } (s.pushUp f).port
      (by simp [State.queued, State.pushUp])
  rw [State.pendingClasses, State.pendingClasses, hrep]

theorem maskAct_opened (masks : Byte) (s : State) : maskAct masks 1 s =
    (s.opened masks, ⟨.ok, [masks, 1, (s.opened masks).pendingClasses]⟩) := by
  rw [← State.opened_maskData]
  rfl

theorem State.opened_replied (masks req : Byte) (data : List Byte) (s : State) :
    (s.replied 3 req .mask .ok data).opened masks = ({ s.replied 3 req .mask .ok data with
      rep := { s.rep with masks := masksOf masks, enable := true } } : State).release := by
  rw [State.opened, State.replied, State.pushUp_rep, State.frameTaken_rep]

theorem State.takeRequest_mask_opened (hs : s.Takes) (req masks : Byte) :
    s.takeRequest .mask [req, masks, 1] (maskAct masks 1) = (s.replied 3 req .mask .ok
      [masks, 1, ((s.replied 3 req .mask .ok [masks, 1, 0]).opened masks).pendingClasses]).opened masks := by
  have hreply (f : Frame) : (maskAct masks 1 ((s.frameTaken .n 3).pushUp f)).2 =
      ⟨.ok, [masks, 1, ((s.replied 3 req .mask .ok [masks, 1, 0]).opened masks).pendingClasses]⟩ := by
    rw [maskAct_opened, State.opened_pushUp_pendingClasses]
    rfl
  generalize [masks, 1, ((s.replied 3 req .mask .ok [masks, 1, 0]).opened masks).pendingClasses] = data at hreply ⊢
  have htaken := State.takeRequest_composes hs (k := .mask) (req := req) (rest := [masks, 1]) rfl hreply
  rw [maskAct_opened] at htaken
  simpa only [List.length_cons, List.length_nil] using htaken

/-- Settles O36: by the enable; the release leaves what the reply shows already. -/
theorem maskSetsAndReleases : Obligations.MaskSetsAndReleases := by
  unfold Obligations.MaskSetsAndReleases
  intro s req masks enable hs
  have htaken (g : State → State) (r : Reply)
      (hact : ∀ q : LinkPorts, maskAct masks enable.toNat { s with port := q } = (g { s with port := q }, r)) :=
    exec_taken hs (k := .mask) (c := .mask [req, masks, enable]) (by decide) rfl (by simp) rfl hact
  split
  next habove => exact htaken (fun t => t) ⟨.range, s.maskData⟩ fun q => if_pos habove
  split
  next hzero =>
    subst hzero
    let cleared : ReportUnit :=
      { s.rep with masks := masksOf masks, enable := false, held := Vector.replicate 8 none }
    have hdata : ({ s with rep := cleared } : State).maskData = [masks, 0, 0] := by
      rw [State.maskData, maskByte_masksOf masks rfl]
      simp [State.pendingClasses, cleared]
      rfl
    exact htaken (fun t => { t with rep := cleared }) ⟨.ok, [masks, 0, 0]⟩ fun q => hdata ▸ rfl
  next hle hne =>
    have hone : enable = 1 := by
      have : enable.toNat ≠ 0 := fun h => hne (BitVec.eq_of_toNat_eq h)
      exact BitVec.eq_of_toNat_eq (by change enable.toNat = 1; omega)
    subst hone
    have hexec : exec (.mask [req, masks, 1]) s = .next (s.takeRequest .mask [req, masks, 1] (maskAct masks 1)) := rfl
    rw [hexec, State.takeRequest_mask_opened hs, State.opened_replied, State.opened_replied]

end

end Sys2Proof.Machine
end

-- ==== Proofs: SAVE, STORE_CLEAR and the two ends of a save ====
section
/-! What the save list and the current save become (R149 to R157). -/

namespace Sys2Proof.Machine

section

variable {s : State}

/-! ## The save of the list's head (R153) -/

/-- The part once the save of `p` has started and `rest` is still listed. -/
def State.saving (p : Page) (rest : List Page) (s : State) : State :=
  { s with
    store := { s.store with list := rest, current := some ⟨p, pageBytes s.map.tiles p⟩ }
    map := { s.map with dirty := s.map.dirty.set p false } }

theorem State.startSave_cons (herr : s.store.error = false) (hcur : s.store.current = none) {p : Page}
    {rest : List Page} (hlist : s.store.list = p :: rest) : s.startSave = s.saving p rest := by
  rcases s.startSave_cases with ⟨-, hno⟩ | ⟨q, rest', -, -, hlist', he⟩
  · simp [herr, hcur, hlist] at hno
  · obtain ⟨rfl, rfl⟩ := List.cons.inj (hlist.symm.trans hlist')
    exact he

theorem State.startSave_of_current (h : s.store.current.isSome = true) : s.startSave = s := by
  rcases s.startSave_cases with ⟨he, -⟩ | ⟨_, _, -, hcur, -⟩
  · exact he
  · rw [hcur] at h; cases h

theorem State.startSave_nil (h : s.store.list = []) : s.startSave = s := by
  rcases s.startSave_cases with ⟨he, -⟩ | ⟨_, _, -, -, hlist, -⟩
  · exact he
  · rw [hlist] at h; cases h

theorem carry8_number (st : MapStore) : carry8 st.number =
    if st.error then 2 else if st.current.isSome then 1 else 0 := by
  rw [MapStore.number]
  split_ifs <;> rfl

/-- The snapshot of a page reads as its tiles (R2, R153). -/
theorem pageBytes_read (p : Page) {i : Nat} (hi : i < 256) :
    ∀ tiles : Memory, (pageBytes tiles p).read i = tiles.read (256 * p.val + i)
  | [] => rfl
  | (a, b) :: tiles => by
    have ih := pageBytes_read p hi tiles
    rw [show Memory.read ((a, b) :: tiles) (256 * p.val + i) =
      if a = 256 * p.val + i then b else Memory.read tiles (256 * p.val + i) from rfl]
    by_cases hp : a / 256 = p.val
    · rw [show pageBytes ((a, b) :: tiles) p = (a % 256, b) :: pageBytes tiles p by simp [pageBytes, hp], ← ih]
      have haddr : a = 256 * p.val + i ↔ a % 256 = i := by omega
      simp only [haddr]
      rfl
    · rw [show pageBytes ((a, b) :: tiles) p = pageBytes tiles p by simp [pageBytes, hp], if_neg (by omega), ih]

/-! ## SAVE (R151, R152) -/

theorem saveAct_error {mode : Nat} (hmode : ¬1 < mode) (herr : s.store.error = true) (page : Page) :
    saveAct mode page s = (s, ⟨.storeError, carry16 0 ++ carry16 s.store.list.length ++ [2]⟩) := by
  simp only [saveAct, if_neg hmode, herr, if_true, State.saveData, carry8_number]
  rfl

theorem saveAct_listed {mode : Nat} (hmode : ¬1 < mode) (herr : s.store.error ≠ true) (page : Page) {t : State}
    (ht : ({ s with store := { s.store with list := s.store.list ++ s.saveAdds mode page } } : State).startSave = t) :
    saveAct mode page s = (t, ⟨.ok, t.saveData (s.saveAdds mode page).length⟩) := by
  simp only [saveAct, if_neg hmode, if_neg herr, ht]

/-- While a save runs, the pages join the list. -/
theorem saveAct_running {mode : Nat} (hmode : ¬1 < mode) (herr : s.store.error ≠ true)
    (hcur : s.store.current.isSome = true) (page : Page) : saveAct mode page s =
      ({ s with store := { s.store with list := s.store.list ++ s.saveAdds mode page } },
        ⟨.ok, carry16 (s.saveAdds mode page).length ++
          carry16 (s.store.list ++ s.saveAdds mode page).length ++ [1]⟩) := by
  rw [saveAct_listed hmode herr page (State.startSave_of_current hcur), State.saveData, carry8_number]
  simp only [if_neg herr, if_pos hcur]

theorem saveAct_nothing {mode : Nat} (hmode : ¬1 < mode) (herr : s.store.error ≠ true)
    (hcur : s.store.current.isSome ≠ true) (hlist : s.store.list = []) {page : Page}
    (hadds : s.saveAdds mode page = []) : saveAct mode page s = (s, ⟨.ok, carry16 0 ++ carry16 0 ++ [0]⟩) := by
  have hsame : ({ s with store := { s.store with list := s.store.list ++ s.saveAdds mode page } } : State) = s := by
    rw [hadds, List.append_nil]
  rw [saveAct_listed hmode herr page (t := s) (by rw [hsame, State.startSave_nil hlist]), State.saveData, carry8_number, hadds, hlist]
  simp only [if_neg herr, if_neg hcur, List.length_nil]
  rfl

/-- In an IDLE store the first page's save starts. -/
theorem saveAct_started {mode : Nat} (hmode : ¬1 < mode) (herr : s.store.error ≠ true)
    (hcur : s.store.current.isSome ≠ true) (hlist : s.store.list = []) {page p : Page} {rest : List Page}
    (hadds : s.saveAdds mode page = p :: rest) : saveAct mode page s =
      (s.saving p rest, ⟨.ok, carry16 (p :: rest).length ++ carry16 rest.length ++ [1]⟩) := by
  have hstart : ({ s with store := { s.store with list := s.store.list ++ s.saveAdds mode page } } : State).startSave =
      s.saving p rest :=
    State.startSave_cons (by simpa using herr) (by simpa using hcur) (by rw [hlist, hadds]; rfl)
  rw [saveAct_listed hmode herr page hstart, State.saveData, carry8_number, hadds]
  simp only [State.saving, if_neg herr, Option.isSome_some, if_true]

/-- Settles O38: by the refusals, then the pages that join and the save that starts; the snapshot by its bytes. -/
theorem saveListsPagesAndStarts : Obligations.SaveListsPagesAndStarts := by
  unfold Obligations.SaveListsPagesAndStarts
  refine ⟨fun s req mode page hs hok => ?_, fun m tx ty hm _ _ => ?_⟩
  · have htaken (g : State → State) (r : Reply)
        (hact : ∀ q : LinkPorts, saveAct mode.toNat page.toFin { s with port := q } = (g { s with port := q }, r)) :
        exec (.save [req, mode, page]) s = .next (g (s.replied 3 req .save r.code r.data)) :=
      exec_taken hs (k := .save) (c := .save [req, mode, page]) (by decide) rfl (by simp) rfl hact
    intro st named adds number
    have hadds : s.saveAdds mode.toNat page.toFin = adds := by
      have hzero : mode.toNat = 0 ↔ mode = 0 := by rw [← BitVec.toNat_inj]; rfl
      simp only [State.saveAdds, hzero]
      rfl
    clear_value adds
    subst hadds
    split
    next habove =>
      have := htaken (fun t => t) ⟨.range, s.saveData 0⟩ fun q => if_pos habove
      rwa [State.saveData, carry8_number] at this
    split
    next hmode herr => 
      exact htaken (fun t => t) ⟨.storeError, carry16 0 ++ carry16 st.list.length ++ [2]⟩ fun q =>
        saveAct_error (s := { s with port := q }) hmode herr _
    split
    next hmode herr hcur =>
      exact htaken (fun t => { t with store := { st with list := st.list ++ s.saveAdds mode.toNat page.toFin } })
        ⟨.ok, carry16 (s.saveAdds mode.toNat page.toFin).length ++
          carry16 (st.list ++ s.saveAdds mode.toNat page.toFin).length ++ [1]⟩
        fun q => saveAct_running (s := { s with port := q }) hmode herr hcur _
    next hmode herr hcur =>
      have hlist : s.store.list = [] := hok.2.2.2 (by rw [hs.1]; decide) (by simpa using herr) (by simpa using hcur)
      cases hadds : s.saveAdds mode.toNat page.toFin with
      | nil =>
        exact htaken (fun t => t) ⟨.ok, carry16 0 ++ carry16 0 ++ [0]⟩ fun q =>
          saveAct_nothing (s := { s with port := q }) hmode herr hcur hlist hadds
      | cons p rest =>
        exact htaken (State.saving p rest) ⟨.ok, carry16 (p :: rest).length ++ carry16 rest.length ++ [1]⟩ fun q =>
          saveAct_started (s := { s with port := q }) hmode herr hcur hlist hadds
  · exact ⟨pageBytes_within hm.1.1 _, pageBytes_read _ (by omega) _⟩

/-! ## STORE_CLEAR (R157) -/

theorem State.cleared_cancelled (herr : s.store.error = true) : s.cleared true =
    { s with store := { s.store with error := false, failedPage := none, list := [] } } := by
  rw [State.cleared, if_pos herr]
  exact State.startSave_nil rfl

theorem State.cleared_retried (herr : s.store.error = true) (hcur : s.store.current = none) {failed : Page}
    (hfailed : s.store.failedPage = some failed) : s.cleared false =
    ({ s with store := { s.store with error := false, failedPage := none } } : State).saving failed
      (s.store.list.filter fun q => decide (q ≠ failed)) := by
  rw [State.cleared, if_pos herr, MapStore.retryFirst, hfailed]
  exact State.startSave_cons (s := { s with store := { s.store with
    error := false, failedPage := none, list := failed :: s.store.list.filter fun q => decide (q ≠ failed) } }) rfl hcur rfl

theorem State.cleared_list (herr : s.store.error ≠ true) :
    s.cleared true = { s with store := { s.store with list := [] } } := by
  rw [State.cleared, if_neg herr]
  rfl

theorem State.cleared_nothing (herr : s.store.error ≠ true) : s.cleared false = s := by
  rw [State.cleared, if_neg herr]
  rfl

theorem storeClearAct_cleared {cancel : Nat} (h : ¬1 < cancel) {flag : Bool} (hflag : decide (cancel = 1) = flag)
    {t : State} (ht : s.cleared flag = t) : storeClearAct cancel s = (t, ⟨.ok, t.clearData⟩) := by
  simp only [storeClearAct, if_neg h, hflag, ht]

/-- Settles O40: by the error latch and the cancel flag. -/
theorem storeClearRetriesOrCancels : Obligations.StoreClearRetriesOrCancels := by
  unfold Obligations.StoreClearRetriesOrCancels
  intro s req cancel failed hs hok hfailed st others running
  have htaken (g : State → State) (r : Reply)
      (hact : ∀ q : LinkPorts, storeClearAct cancel.toNat { s with port := q } = (g { s with port := q }, r)) :
      exec (.storeClear [req, cancel]) s = .next (g (s.replied 2 req .storeClear r.code r.data)) :=
    exec_taken hs (k := .storeClear) (c := .storeClear [req, cancel]) (by decide) rfl (by simp) rfl hact
  have hone : cancel.toNat = 1 ↔ cancel = 1 := by rw [← BitVec.toNat_inj]; rfl
  split
  next habove =>
    have := htaken (fun t => t) ⟨.range, s.clearData⟩ fun q => if_pos habove
    rwa [State.clearData, carry8_number] at this
  split
  next hcancel herr =>
    have hcur : s.store.current = none := hok.2.1 herr
    split
    next h1 =>
      have := htaken (fun t => { t with store := { st with error := false, failedPage := none, list := [] } })
        ⟨.ok, carry16 0 ++ [carry8 ({ st with error := false } : MapStore).number]⟩ fun q =>
        storeClearAct_cleared (s := { s with port := q }) hcancel (decide_eq_true (hone.mpr h1))
          (State.cleared_cancelled (s := { s with port := q }) herr)
      have hidle : carry8 ({ st with error := false } : MapStore).number = 0 := by
        simp [carry8_number, show st.current = none from hcur]
      rwa [hidle] at this
    next h0 =>
      exact htaken (fun t => ({ t with store := { st with error := false, failedPage := none } } : State).saving failed others)
        ⟨.ok, carry16 others.length ++ [1]⟩ fun q =>
        storeClearAct_cleared (s := { s with port := q }) hcancel (decide_eq_false (mt hone.mp h0))
          (State.cleared_retried (s := { s with port := q }) herr hcur (hfailed herr))
  next hcancel herr =>
    have hrunning : carry8 st.number = running := (carry8_number st).trans (if_neg herr)
    rw [← hrunning]
    split
    next h1 =>
      exact htaken (fun t => { t with store := { st with list := [] } }) ⟨.ok, carry16 0 ++ [carry8 st.number]⟩ fun q =>
        storeClearAct_cleared (s := { s with port := q }) hcancel (decide_eq_true (hone.mpr h1)) (State.cleared_list herr)
    next h0 =>
      exact htaken (fun t => t) ⟨.ok, s.clearData⟩ fun q =>
        storeClearAct_cleared (s := { s with port := q }) hcancel (decide_eq_false (mt hone.mp h0))
          (State.cleared_nothing herr)

/-! ## The two ends of a save (R150, R153, R155, R156) -/

theorem exec_completion (hrun : s.phase = .running) {c : CurrentSave} (hcur : s.store.current = some c) :
    exec .completion s = .next (s.saveCompletes c) := by
  rw [show exec .completion s = execCompletion s from rfl, execCompletion, State.onRunning_running _ hrun]
  simp only [hcur]

theorem exec_verifyFailure (hrun : s.phase = .running) {c : CurrentSave} (hcur : s.store.current = some c)
    (step : FailStep) : exec (.verifyFailure step) s = .next (s.saveFails step c) := by
  rw [show exec (.verifyFailure step) s = execVerifyFailure step s from rfl, execVerifyFailure,
    State.onRunning_running _ hrun]
  simp only [hcur]

/-- The part once the current save's page stands in its slot. -/
def State.pageSaved (c : CurrentSave) (s : State) : State :=
  { s with store := { s.store with
    slots := s.store.slots.set c.page .valid
    medium := s.store.medium.put c.page ⟨.written, .written, c.buffer⟩ } }

/-- The part with no save running. -/
def State.saveEnded (s : State) : State := { s with store := { s.store with current := none } }

theorem State.saveCompletes_eq (c : CurrentSave) (s : State) : s.saveCompletes c =
    if s.store.list = [] then ((s.pageSaved c).raise (.pageSaved c.page)).saveEnded.raise .listDone
    else ((s.pageSaved c).raise (.pageSaved c.page)).saveEnded.startSave := by
  have hlist : ((s.pageSaved c).raise (.pageSaved c.page)).saveEnded.store.list = s.store.list := by
    simp [State.saveEnded, State.pageSaved]
  rw [← hlist]
  rfl

theorem State.saveCompletes_cons (c : CurrentSave) (herr : s.store.error = false) {p : Page} {rest : List Page}
    (hlist : s.store.list = p :: rest) : s.saveCompletes c =
    ((s.pageSaved c).raise (.pageSaved c.page)).saveEnded.saving p rest := by
  rw [State.saveCompletes_eq, if_neg (by rw [hlist]; simp)]
  refine State.startSave_cons ?_ rfl ?_
  · simpa [State.saveEnded, State.pageSaved] using herr
  · simpa [State.saveEnded, State.pageSaved] using hlist

/-- Settles O41: a completion by whether the list is empty, a failure by its step. -/
theorem saveEndsByCompletionOrFailure : Obligations.SaveEndsByCompletionOrFailure := by
  unfold Obligations.SaveEndsByCompletionOrFailure
  intro s c step hrun hok hcur done u partly
  have herr : s.store.error = false := by
    cases herr : s.store.error
    · rfl
    · have := hok.2.1 herr
      rw [hcur] at this
      cases this
  rw [exec_completion hrun hcur, exec_verifyFailure hrun hcur]
  refine ⟨?_, by cases step <;> rfl⟩
  cases hlist : s.store.list with
  | nil => exact congrArg Host.Outcome.next ((s.saveCompletes_eq c).trans (if_pos hlist))
  | cons p rest =>
    rw [State.saveCompletes_cons c herr hlist, State.saving, State.saveEnded, State.raise_map]
    rfl

end

end Sys2Proof.Machine
end

-- ==== Proofs: the other queries ====
section
/-! The contents of the STATUS, SEGMENTS, BEACON, CONFIG, PAGES and COUNTERS answers, and the one query that changes something. -/

namespace Sys2Proof.Machine

section

variable {s : State}

/-! ## Fields (R188) -/

theorem length_carryCount (n : Nat) : (carryCount n).length = 4 := by
  rw [carryCount]
  split <;> rfl

theorem length_carrySum (n : Int) : (carrySum n).length = 4 := by
  rw [carrySum]
  split <;> rfl

theorem Segment.length_data (g : Segment) : g.data.length = 20 := by
  rw [Segment.data]
  simp only [List.length_append, length_carryCount, length_carrySum]
  rfl

theorem length_backoffData (b : Option Backoff) : (backoffData b).length = 10 := by
  cases b with
  | none =>
    rw [backoffData]
    simp only [List.length_append, length_carryCount]
    rfl
  | some b =>
    rw [backoffData]
    simp only [List.length_append, length_carryCount]
    rfl

theorem length_outcomeData (o : Option (BackoffOutcome × BackoffReason)) : (outcomeData o).length = 2 := by
  cases o <;> rfl

theorem State.length_segmentsData (s : State) : s.segmentsData.length = 18 + 20 * s.seg.queue.length := by
  rw [State.segmentsData, List.length_append, length_flatMap_rows Segment.length_data]
  simp only [List.length_append, length_backoffData, length_outcomeData]
  rfl

theorem carry8_cadenceState (s : State) : carry8 s.cadenceState = if s.seg.cadence.isSome then 1
    else if s.trv.state = .limp ∧ s.trv.grace.isSome = true then 2 else 0 := by
  rw [State.cadenceState]
  split_ifs <;> rfl

/-! ## Pages (R161) -/

theorem finRange_filter_low : (List.finRange 256).filter (fun p => decide (0 ≤ p.val) && decide (p.val < 0 + 128)) =
    (List.finRange 256).take 128 := by decide +kernel

theorem finRange_filter_high :
    (List.finRange 256).filter (fun p => decide (128 ≤ p.val) && decide (p.val < 128 + 128)) =
      (List.finRange 256).drop 128 := by decide +kernel

theorem State.pagesPart_eq (s : State) {a : Byte} (h : ¬3 < a.toNat) : s.pagesPart a.toNat =
    if a = 0 then ((List.finRange 256).map s.pageByte).take 128
    else if a = 1 then ((List.finRange 256).map s.pageByte).drop 128
    else if a = 2 then (s.store.list.map fun p => carry8 p.val).take 128
    else (s.store.list.map fun p => carry8 p.val).drop 128 := by
  rw [← List.map_take, ← List.map_drop, ← finRange_filter_low, ← finRange_filter_high, ← List.map_take, ← List.map_drop]
  have hcases : a = 0 ∨ a = 1 ∨ a = 2 ∨ a = 3 := by
    simp only [← BitVec.toNat_inj]
    change a.toNat = 0 ∨ a.toNat = 1 ∨ a.toNat = 2 ∨ a.toNat = 3
    omega
  rcases hcases with rfl | rfl | rfl | rfl <;> rfl

/-! ## The queries served (R183) -/

/-- A QUERY that changes nothing. -/
theorem State.takeQuery_answered (hs : s.Serves) {subject : Nat} (hsub : subject ≤ 7) (req : Byte) {args : List Byte}
    (hlen : args.length = queryArguments subject) {act : State → State × Reply} (r : Reply)
    (hact : ∀ p : LinkPorts, act { s with port := p } = ({ s with port := p }, r)) :
    s.takeRequest .query (queryPayload req subject args) act = s.replied (args.length + 2) req .query r.code r.data :=
  State.takeQuery_reads req act hs hsub hlen fun f => hact ((s.frameTaken .n (args.length + 2)).pushUp f).port

theorem exec_queryStatus_served (hs : s.Serves) (req : Byte) :
    exec (.queryStatus req []) s = .next (s.replied 2 req .query .ok (0 :: s.statusData)) :=
  congrArg Host.Outcome.next (State.takeQuery_answered hs (subject := 0) (by decide) req rfl (queryOk 0 s.statusData) fun _ => rfl)

theorem exec_querySegments_served (hs : s.Serves) (req : Byte) :
    exec (.querySegments req []) s = .next (s.replied 2 req .query .ok (1 :: s.segmentsData)) :=
  congrArg Host.Outcome.next (State.takeQuery_answered hs (subject := 1) (by decide) req rfl (queryOk 1 s.segmentsData) fun _ => rfl)

theorem exec_queryBeacon_served (hs : s.Serves) (req : Byte) :
    exec (.queryBeacon req []) s = .next (s.replied 2 req .query .ok (4 :: s.dock.beacon.toList.flatMap BeaconEntry.data)) :=
  congrArg Host.Outcome.next (State.takeQuery_answered hs (subject := 4) (by decide) req rfl
    (queryOk 4 (s.dock.beacon.toList.flatMap BeaconEntry.data)) fun _ => rfl)

theorem parameterAct_none {id : Byte} (h : Param.ofId id = none) (s : State) : parameterAct id s = (s, queryRange 5) := by
  simp only [parameterAct, h]

theorem parameterAct_some {id : Byte} {q : Param} (h : Param.ofId id = some q) (s : State) :
    parameterAct id s = (s, queryOk 5 (id :: carry32 (s.param q))) := by
  simp only [parameterAct, h]

theorem exec_queryConfig_served (hs : s.Serves) (req a : Byte) {r : Reply}
    (hact : ∀ p : LinkPorts, parameterAct a { s with port := p } = ({ s with port := p }, r)) :
    exec (.queryConfig req [a]) s = .next (s.replied 3 req .query r.code r.data) :=
  congrArg Host.Outcome.next (State.takeQuery_answered hs (subject := 5) (by decide) req rfl r hact)

theorem exec_queryPages_served (hs : s.Serves) (req a : Byte) : exec (.queryPages req [a]) s = .next (
    if 3 < a.toNat then s.replied 3 req .query .range [6]
    else s.replied 3 req .query .ok (6 :: (s.pagesHead ++ s.pagesPart a.toNat))) := by
  have hserved (r : Reply) (hact : ∀ p : LinkPorts, pagesAct a.toNat { s with port := p } = ({ s with port := p }, r)) :
      exec (.queryPages req [a]) s = .next (s.replied 3 req .query r.code r.data) :=
    congrArg Host.Outcome.next (State.takeQuery_answered hs (subject := 6) (by decide) req rfl r hact)
  split
  next h => exact hserved (queryRange 6) fun p => if_pos h
  next h => exact hserved (queryOk 6 (s.pagesHead ++ s.pagesPart a.toNat)) fun p => if_neg h

theorem exec_queryCounters_served (hs : s.Serves) (req a : Byte) : exec (.queryCounters req [a]) s = .next (
    if 1 < a.toNat then s.replied 3 req .query .range [7]
    else { s.replied 3 req .query .ok (7 :: s.countersData) with
      rep := { s.rep with counters := if a.toNat = 1 then Vector.replicate 12 0 else s.rep.counters } }) := by
  split
  next h =>
    exact congrArg Host.Outcome.next (State.takeQuery_answered hs (subject := 7) (by decide) req rfl (queryRange 7)
      fun p => if_pos h)
  next h =>
    have hact (t : State) : countersAct a.toNat t = ({ t with rep := { t.rep with
        counters := if a.toNat = 1 then Vector.replicate 12 0 else t.rep.counters } }, queryOk 7 t.countersData) := by
      rw [countersAct, if_neg h]
      split_ifs <;> rfl
    have hanswer := State.answer_of_composes (s := s.frameTaken .n 3) (kind := NKind.query.code) (req := req)
      (act := countersAct a.toNat) (r := queryOk 7 s.countersData) fun f => congrArg Prod.snd (hact _)
    rw [hact] at hanswer
    refine congrArg Host.Outcome.next (Eq.trans ?_ hanswer)
    exact State.takeRequest_handedOn req (countersAct a.toNat) hs
      ((portRefusal_queryPayload req s.trv.state (subject := 7) (by decide) [a]).trans (if_pos rfl))

/-- Settles O44: each answer's bytes are the model's data of its subject. -/
theorem queriesAnswerAndChangeNothing : Obligations.QueriesAnswerAndChangeNothing := by
  unfold Obligations.QueriesAnswerAndChangeNothing
  intro s req a hs st storeState cadenceState status beat left backoff outcome record segments counters beacons pageOrNone
    head pages entries part
  have hstore : carry8 st.number = storeState := carry8_number st
  have hcadence : carry8 s.cadenceState = cadenceState := carry8_cadenceState s
  have hstatus : s.statusData = status := by
    rw [State.statusData, hstore, hcadence]
    simp only [status]
    cases s.drv.fault <;> rfl
  have hbeat : carry8 (beatNumber s.seg.lastBeat) = beat := by
    simp only [beat]
    rcases s.seg.lastBeat with _ | _ | _ <;> rfl
  have hleft : s.timeLeft = left := by
    simp only [left, State.timeLeft]
    cases s.seg.cadence <;> cases s.trv.grace <;> rfl
  have hbackoff : backoffData s.trv.backoff = backoff := by
    simp only [backoff]
    cases s.trv.backoff <;> rfl
  have houtcome : outcomeData s.trv.outcome = outcome := by
    simp only [outcome]
    rcases s.trv.outcome with _ | ⟨_ | _, _⟩ <;> rfl
  have hrecord (g : Segment) : g.data = record g := by
    have hflags : g.flags = (if g.state = .active then 1 else 0) + 2 * g.clamped.toNat + 4 * g.side.toNat +
        8 * g.brush.number + 32 * g.kind.number := by
      rw [Segment.flags]
      cases g.clamped <;> cases g.side <;> rfl
    have helapsed : min (g.elapsed : Int) 65535 = if 65535 < g.elapsed then 65535 else (g.elapsed : Int) := by
      split_ifs <;> omega
    rw [Segment.data, hflags, helapsed]
  have hsegments : s.segmentsData = segments := by
    rw [State.segmentsData, hcadence, hbeat, hleft, hbackoff, houtcome, funext hrecord]
  have hpage (q : Option Page) : pageData q = pageOrNone q := by
    cases q <;> rfl
  have hhead : s.pagesHead = head := by
    rw [State.pagesHead, hstore, hpage, hpage]
    simp only [head]
    rcases s.store.failedStep with _ | _ | _ | _ <;> rfl
  have hpages : (List.finRange 256).map s.pageByte = pages := by
    refine List.map_congr_left fun q _ => ?_
    rw [State.pageByte]
    cases s.store.slots[q] <;> rfl
  have hcounters : s.countersData = counters := by
    simp [State.countersData, counters]
  have hone : a.toNat = 1 ↔ a = 1 := by rw [← BitVec.toNat_inj]; rfl
  refine ⟨⟨?_, rfl⟩, ⟨?_, ?_⟩, ⟨exec_queryBeacon_served hs req, ?_⟩, ?_, ?_, ⟨?_, ?_⟩, ?_, ?_⟩
  · rw [exec_queryStatus_served hs, hstatus]
  · rw [exec_querySegments_served hs, hsegments]
  · rw [← hsegments, State.length_segmentsData]
  · exact (length_flatMap_rows (w := 4) (fun _ => rfl) _).trans (by rw [Vector.length_toList])
  · cases hid : Param.ofId a with
    | none =>
      exact exec_queryConfig_served hs req a (r := queryRange 5) fun p => parameterAct_none hid _
    | some q =>
      exact exec_queryConfig_served hs req a (r := queryOk 5 (a :: carry32 (s.param q))) fun p => parameterAct_some hid _
  · rw [exec_queryPages_served hs, hhead]
    split
    next => rfl
    next h =>
      rw [State.pagesPart_eq s h, hpages]
      rfl
  · rw [← hhead]
    simp only [State.pagesHead, pageData]
    rfl
  · rw [← hpages, List.length_map, List.length_finRange]
  · rw [exec_queryCounters_served hs, hcounters]
    simp only [hone]
  · rw [← hcounters]
    exact (length_flatMap_rows (w := 2) (fun _ => rfl) _).trans (by simp)

end

end Sys2Proof.Machine
end

-- ==== Proofs: RESET and the events ====
section
/-! What a soft reset leaves (R185), and how an event becomes a NOTE or a pending record (R164 to R166). -/

namespace Sys2Proof.Machine

section

variable {s : State}

/-! ## RESET (R185) -/

theorem State.enter_idle_drv (s : State) : (s.enter .idle).drv = { s.drv with
    period := if s.trv.state = .docked then s.drv.period.map Interval.cut else s.drv.period } := by
  rw [State.enter]
  by_cases h : s.trv.state = .docked
  · rw [if_pos h]
    exact if_pos ⟨h, by decide⟩
  · rw [if_neg h]
    exact if_neg fun h' => h h'.1

theorem exec_reset (req : Byte) (hrun : s.phase = .running) (hs : s.trv.state ≠ .locked) :
    exec (.reset [req]) s = .next ((s.frameTaken .n 1).softReset req) :=
  congrArg Host.Outcome.next (if_pos ⟨hrun, hs⟩)

/-- Settles O45: block by block, the reset's two notes raised last. -/
theorem softResetGivesSoftValues : Obligations.SoftResetGivesSoftValues := by
  unfold Obligations.SoftResetGivesSoftValues
  intro s req hrun hs gate taken t
  have ht : taken.softened req = t := by
    refine State.eq_of_blocks rfl rfl rfl ?_ rfl ?_ rfl rfl ?_ rfl rfl rfl rfl rfl
    · have hquality : s.pose.quality.doubted = if s.pose.quality = .good then .degraded else s.pose.quality := by
        cases s.pose.quality <;> rfl
      exact congrArg (fun q => { s.pose with quality := q, base := none, stallL := 0, stallR := 0 }) hquality
    · exact congrArg (fun y => { s.trv with state := .idle, yield := y, grace := none, backoff := none })
        (Bool.and_false s.trv.yield)
    · exact congrArg (fun d : DriveExchange => { d with
        nextTag := 0, phase := .clear, response := none, misses := 0, waits := 0, stopN := true
        guard := if s.trv.state = Travel.fault then some (1000 * s.paramNat .faultGuard) else s.drv.guard })
        taken.enter_idle_drv
  rw [exec_reset req hrun hs, State.softReset_eq]
  rw [show (s.frameTaken .n 1).softened req = t from ht]
  rfl

/-! ## A departure (R166) -/

theorem State.releaseClass_kept {k : ReportClass}
    (h : s.rep.masks[k.number] = true ∨ s.rep.held[k.number] = none ∨ 16 ≤ s.queued) : s.releaseClass k = s := by
  rcases s.releaseClass_cases k with he | ⟨r, hheld, hmask, hroom, -⟩
  · exact he
  · rcases h with h | h | h
    · rw [hmask] at h; cases h
    · rw [hheld] at h; cases h
    · omega

theorem State.foldl_releaseClass_kept {ks : List ReportClass}
    (h : ∀ k ∈ ks, s.rep.masks[k.number] = true ∨ s.rep.held[k.number] = none ∨ 16 ≤ s.queued) :
    ks.foldl State.releaseClass s = s := by
  induction ks with
  | nil => rfl
  | cons k ks ih =>
    rw [List.foldl_cons, State.releaseClass_kept (h k List.mem_cons_self)]
    exact ih fun k' hk' => h k' (List.mem_cons_of_mem _ hk')

theorem State.releaseClass_released {k : ReportClass} {r : Held} (hmask : s.rep.masks[k.number] = false)
    (hheld : s.rep.held[k.number] = some r) (hroom : s.queued < 16) : s.releaseClass k =
      ({ s with rep := { s.rep with held := s.rep.held.set k.number none } } : State).pushUp (noteFrame r.note r.count) := by
  simp only [State.releaseClass, hheld, hmask, hroom, and_self, if_true]

/-- The classes stand in the order of their numbers. -/
theorem ReportClass.all_split : ∀ c : Fin 8,
    ReportClass.all = ReportClass.all.take c ++ ReportClass.all.getD c .hazard :: ReportClass.all.drop (c + 1) ∧
      (ReportClass.all.getD c .hazard).number = c ∧ ∀ k ∈ ReportClass.all.take c, k.number < c := by decide

/-- The lowest pending unmasked class takes the one free place (R166). -/
theorem State.release_lowest {c : Fin 8} {r : Held} (hmask : s.rep.masks[c] = false) (hheld : s.rep.held[c] = some r)
    (hlowest : ∀ d : Fin 8, d < c → s.rep.masks[d] = true ∨ s.rep.held[d] = none) (hroom : s.queued = 15) :
    s.release = ({ s with rep := { s.rep with held := s.rep.held.set c none } } : State).pushUp
      (noteFrame r.note r.count) := by
  obtain ⟨hsplit, hnumber, hbelow⟩ := ReportClass.all_split c
  generalize ReportClass.all.getD c .hazard = k at hsplit hnumber
  subst hnumber
  rw [State.release, hsplit, List.foldl_append, List.foldl_cons,
    State.foldl_releaseClass_kept fun k' hk' => (hlowest _ (hbelow k' hk')).imp_right .inl,
    State.releaseClass_released hmask hheld (by omega)]
  exact State.foldl_releaseClass_kept fun _ _ => .inr (.inr (by rw [State.pushUp_queued]; exact Nat.succ_le_succ hroom.ge))

theorem exec_departure (hrun : s.phase = .running) {f : Frame} {rest : List Frame} (hout : s.port.out = f :: rest) :
    exec .departure s = .next (s.depart f rest) := by
  rw [show exec .departure s = execDeparture s from rfl, execDeparture, State.onRunning_running _ hrun]
  simp only [hout]

/-! ## Events (R163 to R165) -/

/-- Settles O46: the table of events by evaluation, then an event's three ways and a departure's release. -/
theorem eventsAreSentOrHeldAndReleased : Obligations.EventsAreSentOrHeldAndReleased := by
  unfold Obligations.EventsAreSentOrHeldAndReleased
  refine ⟨?_, ⟨by decide, by decide, fun s l c k => ⟨rfl, rfl, rfl⟩⟩, fun s e => ?_, fun s f rest hrun hout hok => ?_⟩
  · intro side tag policy code n sensor page shown
    refine ⟨rfl, rfl, rfl, rfl, rfl, rfl, rfl, rfl, ?_⟩
    cases sensor <;> rfl
  · intro c note payload count
    refine ⟨fun hoff => if_pos hoff, fun hon hmask hheld hroom => ?_, fun hon hno => ?_⟩
    · rw [State.raise, if_neg (by simp [hon])]
      exact if_pos ⟨hmask, hheld, hroom⟩
    · rw [State.raise, if_neg (by simp [hon])]
      refine (if_neg hno).trans ?_
      have hheld : holdNote (s.noteOf e) s.rep.held[c] = ⟨note, count⟩ := by
        simp only [count]
        cases s.rep.held[c] <;> rfl
      exact congrArg (fun x => { s with rep := { s.rep with held := s.rep.held.set c (some x) } }) hheld
  · intro freed
    obtain ⟨hlen, -, -, hpending, -⟩ := hok
    rw [exec_departure hrun hout]
    refine ⟨fun hnone => ?_, fun c r hmask hheld hlowest => ?_⟩
    · refine congrArg Host.Outcome.next (State.foldl_releaseClass_kept (s := freed) fun k _ => ?_)
      by_cases hmask : s.rep.masks[k.number] = false
      · exact .inr (.inl (hnone _ hmask))
      · exact .inl (by simpa using hmask)
    · refine congrArg Host.Outcome.next (State.release_lowest (s := freed) hmask hheld hlowest ?_)
      have := hpending c hmask (by rw [hheld]; simp)
      rw [hout, List.length_cons] at this
      exact Nat.succ.inj this

end

end Sys2Proof.Machine
end

-- ==== Proofs: misses, stray answers and drive faults ====
section
/-! What an ODOM that answers nothing and a miss leave (R117, R119), and what a drive fault does (R120 to R127). -/

namespace Sys2Proof.Machine

section

variable {s : State}

/-! ## The commands of the exchange (R117, R119, R123) -/

theorem exec_odom (hrun : s.phase = .running) {p : List Byte} (hp : p.length = 7) :
    exec (.odom p) s = .next ((s.frameTaken .d 7).takeOdom (.read p)) := by
  rw [show exec (.odom p) s = .next (s.takeDLink kindOdom p) from rfl, State.takeDLink,
    State.onRunning_running _ hrun, hp]
  exact congrArg Host.Outcome.next (if_pos ⟨rfl, rfl⟩)

theorem exec_responseTimerExpiry (hrun : s.phase = .running) (hresp : s.drv.response.isSome = true) :
    exec .responseTimerExpiry s = .next s.miss := by
  rw [show exec .responseTimerExpiry s = execResponseTimerExpiry s from rfl, execResponseTimerExpiry,
    State.onRunning_running _ hrun]
  exact congrArg Host.Outcome.next (if_pos hresp)

theorem exec_guardTimerExpiry (hrun : s.phase = .running) :
    exec .guardTimerExpiry s = .next { s with drv := { s.drv with guard := none } } := by
  rw [show exec .guardTimerExpiry s = execGuardTimerExpiry s from rfl, execGuardTimerExpiry,
    State.onRunning_running _ hrun]

theorem State.takeOdom_late {f : OdomFields} (hphase : s.drv.phase = .missed) (htag : f.tag = s.drv.exTag) :
    s.takeOdom f = s.count .driveLate 1 := by
  simp [State.takeOdom, DriveExchange.classify, hphase, htag]

theorem State.takeOdom_stray {f : OdomFields}
    (h : s.drv.phase = .clear ∨ s.drv.phase = .answered ∨ f.tag ≠ s.drv.exTag) :
    s.takeOdom f = s.count .driveStray 1 := by
  have hclass : s.drv.classify f.tag = .stray := by
    rcases h with h | h | h
    · simp only [DriveExchange.classify, h]
    · simp only [DriveExchange.classify, h]
    · cases hphase : s.drv.phase <;> simp only [DriveExchange.classify, hphase, if_neg h]
  simp only [State.takeOdom, hclass]

theorem State.takeOdom_answer {f : OdomFields} (hphase : s.drv.phase = .outstanding) (htag : f.tag = s.drv.exTag) :
    s.takeOdom f = s.takeAnswer f := by
  simp [State.takeOdom, DriveExchange.classify, hphase, htag]

/-- The part once an exchange has ended as a miss, before a drive fault (R119). -/
def State.missed (s : State) : State :=
  (({ s with drv := { s.drv with phase := .missed, response := none, misses := saturate 255 s.drv.misses 1 } } :
    State).count .driveTimeout 1).setLatch .driveTimeout

theorem State.miss_eq (s : State) : s.miss =
    if s.paramNat .missLimit ≤ saturate 255 s.drv.misses 1 then s.missed.driveFault .driveLost 0 else s.missed := rfl

theorem State.driveFault_powerCut {kind : FaultKind} {code : Nat} (h : s.trv.state = .fault ∨ s.trv.state = .locked) :
    s.driveFault kind code = s := if_pos h

/-- Settles O47: by the exchange's judgement of the tag, and the miss below its limit. -/
theorem missesAndStraysAreCounted : Obligations.MissesAndStraysAreCounted := by
  unfold Obligations.MissesAndStraysAreCounted
  intro s p hrun tag
  refine ⟨fun hp hphase htag => ?_, fun hp hstray => ?_, fun hresp hmisses hbelow => ?_, exec_guardTimerExpiry hrun⟩
  · rw [exec_odom hrun hp]
    exact congrArg _ (State.takeOdom_late (f := .read p) hphase htag)
  · rw [exec_odom hrun hp]
    exact congrArg _ (State.takeOdom_stray (f := .read p) hstray)
  · have hcount : saturate 255 s.drv.misses 1 = s.drv.misses + 1 := Nat.min_eq_left (by omega)
    have hmissed : s.miss = s.missed := by
      rw [State.miss_eq]
      split
      next hlimit =>
        rcases hbelow with hlt | hfault
        · omega
        · exact State.driveFault_powerCut (.inl hfault)
      next => rfl
    rw [exec_responseTimerExpiry hrun hresp, hmissed, State.missed, hcount]

/-! ## What a handover leaves alone (R27, R31) -/

/-- The part moves on without a drive fault: the map, the store, the tables, the line to the drive, the envelope
record and the cliff sensors stand, and the exchange but for its period; and the power is not cut. -/
structure MovesOn (s t : State) : Prop where
  map : t.map = s.map
  store : t.store = s.store
  params : t.params = s.params
  dTx : t.port.dTx = s.port.dTx
  env : t.env = s.env
  haz : t.haz = s.haz
  drv : ∃ p, t.drv = { s.drv with period := p }
  uncut : ¬s.trv.state.PowerCut → ¬t.trv.state.PowerCut

theorem MovesOn.refl (s : State) : MovesOn s s := ⟨rfl, rfl, rfl, rfl, rfl, rfl, ⟨_, rfl⟩, id⟩

theorem MovesOn.trans {s t u : State} (h : MovesOn s t) (k : MovesOn t u) : MovesOn s u where
  map := k.map.trans h.map
  store := k.store.trans h.store
  params := k.params.trans h.params
  dTx := k.dTx.trans h.dTx
  env := k.env.trans h.env
  haz := k.haz.trans h.haz
  drv := by
    obtain ⟨p, hp⟩ := h.drv
    obtain ⟨q, hq⟩ := k.drv
    exact ⟨q, by rw [hq, hp]⟩
  uncut := k.uncut ∘ h.uncut

theorem MovesOn.raise (e : Event) (s : State) : MovesOn s (s.raise e) := by
  refine ⟨?_, ?_, ?_, ?_, ?_, ?_, ⟨s.drv.period, ?_⟩, ?_⟩ <;> simp

theorem MovesOn.raiseAll (es : List Event) (s : State) : MovesOn s (s.raiseAll es) := by
  refine ⟨?_, ?_, ?_, ?_, ?_, ?_, ⟨s.drv.period, ?_⟩, ?_⟩ <;> simp

theorem MovesOn.enter {v : Travel} (hv : ¬v.PowerCut) (s : State) : MovesOn s (s.enter v) := by
  obtain ⟨p, hp, -⟩ := s.enter_sameButInterval v
  exact ⟨rfl, rfl, rfl, rfl, rfl, rfl, ⟨p, hp⟩, fun _ => hv⟩

theorem MovesOn.inApproach (s : State) : MovesOn s s.inApproach := by
  obtain ⟨p, hp, -⟩ := s.enter_sameButInterval .approach
  exact ⟨rfl, rfl, rfl, rfl, rfl, rfl, ⟨p, hp⟩, fun _ => (by decide : ¬Travel.PowerCut .approach)⟩

theorem MovesOn.queueEmptied (s : State) : MovesOn s s.queueEmptied := by
  rw [State.queueEmptied]
  split
  · split
    · rw [State.beginApproach_eq]
      exact (MovesOn.inApproach s).trans (MovesOn.raise _ _)
    · exact MovesOn.enter (by decide) s
  · exact MovesOn.enter (by decide) s
  · exact .refl s

theorem MovesOn.of_queue (q : List Segment) (s : State) : MovesOn s { s with seg := { s.seg with queue := q } } :=
  ⟨rfl, rfl, rfl, rfl, rfl, rfl, ⟨_, rfl⟩, id⟩

theorem MovesOn.completeActive (s : State) : MovesOn s s.completeActive := by
  rcases s.completeActive_cases with ⟨-, h⟩ | ⟨g, rest, -, h⟩
  · rw [h]
    exact .refl s
  · have hdone := (MovesOn.of_queue (activateHead rest) s).trans (MovesOn.raise (.segmentDone g.tag) _)
    rw [h]
    split
    · exact hdone.trans (MovesOn.queueEmptied _)
    · exact hdone

theorem MovesOn.endBackoff (o : BackoffOutcome) (b : Backoff) (s : State) : MovesOn s (s.endBackoff o b) := by
  have henter : MovesOn s (s.enter .idle) := MovesOn.enter (by decide) s
  exact ⟨henter.map, henter.store, henter.params, henter.dTx, henter.env, henter.haz, henter.drv, henter.uncut⟩

theorem MovesOn.backoffProgress (st : OdomStep) (s : State) : MovesOn s (s.backoffProgress st) := by
  rw [State.backoffProgress]
  split
  · dsimp only
    split
    · split
      · exact (MovesOn.endBackoff _ _ _).trans (MovesOn.raise _ _)
      · exact MovesOn.endBackoff _ _ _
    · exact ⟨rfl, rfl, rfl, rfl, rfl, rfl, ⟨_, rfl⟩, id⟩
  · exact .refl s

theorem MovesOn.segmentProgress (st : OdomStep) (s : State) : MovesOn s (s.segmentProgress st) := by
  rw [State.segmentProgress]
  split
  · exact .refl s
  · dsimp only
    split
    · exact (MovesOn.of_queue _ s).trans (MovesOn.completeActive _)
    · exact MovesOn.of_queue _ s

theorem MovesOn.takeHandover (left right : Nat) (ready : Bool) (s : State) :
    MovesOn s (s.takeHandover left right ready) := by
  rw [State.takeHandover]
  split
  · exact ⟨rfl, rfl, rfl, rfl, rfl, rfl, ⟨_, rfl⟩, id⟩
  next base _ =>
    have hposed : MovesOn s { s with pose := (s.handover left right base ready).pose } :=
      ⟨rfl, rfl, rfl, rfl, rfl, rfl, ⟨_, rfl⟩, id⟩
    have hlatched (u : State) (b : Bool) : MovesOn u (if b then u.setLatch .odomLoss else u) := by
      cases b
      · exact .refl u
      · exact ⟨rfl, rfl, rfl, rfl, rfl, rfl, ⟨_, rfl⟩, id⟩
    have hraised := (hposed.trans (hlatched _ (s.handover left right base ready).odomLoss)).trans
      (MovesOn.raiseAll (s.handover left right base ready).events _)
    dsimp only
    split
    · exact hraised
    · exact (hraised.trans (MovesOn.backoffProgress _ _)).trans (MovesOn.segmentProgress _ _)

theorem State.ParamsOk.paramNat_le (h : s.ParamsOk) (p : Param) {n : Nat} (hn : p.row.hi ≤ n) : s.paramNat p ≤ n := by
  have hrow := (h.row p).2
  rw [State.paramNat]
  omega

/-! ## Drive faults (R118 to R127) -/

/-- What a drive fault leaves: the part stands in FAULT or LOCKED, cut from its motors. -/
structure FaultEntered (kind : FaultKind) (code : Nat) (s t : State) : Prop where
  state : t.trv.state = if s.drv.guard.isSome then .locked else .fault
  stopN : t.drv.stopN = false
  dTx : t.port.dTx = s.port.dTx ++ [⟨kindBrake, []⟩]
  latch : t.rep.latches.getLsbD 10 = true
  fault : t.drv.fault = some kind
  faultCode : t.drv.faultCode = code
  queue : t.seg.queue = []
  cadence : t.seg.cadence = none
  yield : t.trv.yield = false
  grace : t.trv.grace = none
  backoff : t.trv.backoff = none
  sub : t.dock.sub = .none_
  map : t.map = s.map
  store : t.store = s.store
  locked : s.drv.guard.isSome = true → t.drv.guard = none ∧ t.drv.period = none ∧ t.drv.response = none ∧
    t.drv.phase = .clear

theorem getLsbD_faultLatch (latches : BitVec 12) : (Latch.fault.set latches).getLsbD 10 = true := by
  simp [Latch.set, Latch.position]

theorem State.driveFault_entered (kind : FaultKind) (code : Nat) (h : ¬s.trv.state.PowerCut) :
    FaultEntered kind code s (s.driveFault kind code) := by
  rcases s.driveFault_cases kind code with ⟨hcut, -⟩ | ⟨-, -, ⟨hguard, he⟩ | ⟨hguard, he⟩⟩
  · exact absurd hcut h
  · rw [he]
    obtain ⟨hstate, hstop, hdTx, hlatch, -, hg, hper, hresp, hphase, hfault, hcode, hqueue, hcad, hyield, hgrace, hback,
      hsub, -, hmap, -, -, -, hstore, -⟩ :=
      State.enterLocked_effect kind { s with drv := { s.drv with fault := some kind, faultCode := code } }
    exact ⟨hstate.trans (if_pos hguard).symm, hstop, hdTx, by rw [hlatch, getLsbD_faultLatch], hfault, hcode, hqueue, hcad,
      hyield, hgrace, hback, hsub, hmap, hstore, fun _ => ⟨hg, hper, hresp, hphase⟩⟩
  · rw [he]
    obtain ⟨hstate, hstop, hdTx, hlatch, -, -, hfault, hcode, hqueue, hcad, hyield, hgrace, hback, hsub, -, hmap, -, -, -,
      hstore, -⟩ :=
      State.enterFault_effect kind code { s with drv := { s.drv with fault := some kind, faultCode := code } }
    exact ⟨hstate.trans (if_neg (by simp [hguard])).symm, hstop, hdTx, by rw [hlatch, getLsbD_faultLatch], hfault, hcode,
      hqueue, hcad, hyield, hgrace, hback, hsub, hmap, hstore, fun h => by rw [hguard] at h; cases h⟩

/-- A drive fault after steps that only moved the part on. -/
theorem FaultEntered.of_movesOn {kind : FaultKind} {code : Nat} {t u : State} (h : FaultEntered kind code t u)
    (hguard : t.drv.guard = s.drv.guard) (hdTx : t.port.dTx = s.port.dTx) (hmap : t.map = s.map)
    (hstore : t.store = s.store) : FaultEntered kind code s u :=
  { h with
    state := hguard ▸ h.state
    dTx := hdTx ▸ h.dTx
    map := h.map.trans hmap
    store := h.store.trans hstore
    locked := hguard ▸ h.locked }

/-- The part while an answer's handover is taken (R118). -/
def State.answered (s : State) : State := { s with drv := { s.drv with response := none, phase := .answered, misses := 0 } }

theorem State.takeAnswer_eq (f : OdomFields) (s : State) : s.takeAnswer f =
    (s.answered.takeHandover f.left f.right (decide (f.status = .ready))).actOnStatus f := rfl

/-- An answer with status FAULT (R118, R120). -/
theorem State.takeAnswer_fault {f : OdomFields} (hstatus : f.status = .fault) (hcut : ¬s.trv.state.PowerCut) :
    FaultEntered .driveFault f.code s (s.takeAnswer f) := by
  have hmoves := MovesOn.takeHandover f.left f.right (decide (f.status = .ready)) s.answered
  obtain ⟨p, hdrv⟩ := hmoves.drv
  rw [State.takeAnswer_eq, State.actOnStatus, hstatus]
  rw [hstatus] at hmoves hdrv
  exact (State.driveFault_entered .driveFault f.code (hmoves.uncut hcut)).of_movesOn (by rw [hdrv]; rfl) hmoves.dTx
    hmoves.map hmoves.store

/-- The WAIT answer that reaches WAIT_LIMIT (R118, R120). -/
theorem State.takeAnswer_stuck {f : OdomFields} (hstatus : f.status = .wait) (hcut : ¬s.trv.state.PowerCut)
    (hlimit : s.paramNat .waitLimit ≤ saturate 65535 s.drv.waits 1) :
    FaultEntered .driveStuck 0 s (s.takeAnswer f) := by
  have hmoves := MovesOn.takeHandover f.left f.right (decide (f.status = .ready)) s.answered
  rw [State.takeAnswer_eq]
  generalize s.answered.takeHandover f.left f.right (decide (f.status = .ready)) = t at hmoves
  obtain ⟨p, hdrv⟩ := hmoves.drv
  have hreached : t.paramNat .waitLimit ≤ saturate 65535 t.drv.waits 1 := by
    rw [hdrv, State.paramNat, State.param, hmoves.params]
    exact hlimit
  have hact : t.actOnStatus f =
      ({ t with drv := { t.drv with waits := saturate 65535 t.drv.waits 1 } } : State).driveFault .driveStuck 0 := by
    rw [State.actOnStatus, hstatus]
    exact if_pos hreached
  rw [hact]
  refine (State.driveFault_entered .driveStuck 0 (s := { t with drv := { t.drv with waits := saturate 65535 t.drv.waits 1 } })
    (hmoves.uncut hcut)).of_movesOn (s := s) ?_ hmoves.dTx hmoves.map hmoves.store
  change t.drv.guard = s.answered.drv.guard
  rw [hdrv]

theorem OdomStatus.ofNumber_fault {n : Nat} (h : 2 ≤ n) : OdomStatus.ofNumber n = .fault := by
  rcases n with _ | _ | n
  · omega
  · omega
  · rfl

/-- Settles O49: the three causes reach one entry, which cuts the power and stops the robot. -/
theorem driveFaultStopsTheRobot : Obligations.DriveFaultStopsTheRobot := by
  unfold Obligations.DriveFaultStopsTheRobot
  intro s c kind code hrun hparams hfault hlocked hcause
  have hcut : ¬s.trv.state.PowerCut := fun h => h.elim hfault hlocked
  suffices h : ∃ t, exec c s = .next t ∧ FaultEntered kind code s t by
    obtain ⟨t, hexec, h⟩ := h
    exact ⟨t, hexec, h.state, h.stopN, h.dTx, h.latch, h.fault, h.faultCode, h.queue, h.cadence, h.yield, h.grace, h.backoff,
      h.sub, h.map, h.store, h.locked⟩
  rcases hcause with ⟨p, rfl, hp, hphase, htag, hstatus⟩ | ⟨rfl, hresp, hlimit, rfl, rfl⟩
  · refine ⟨_, exec_odom hrun hp, ?_⟩
    rw [State.takeOdom_answer (s := s.frameTaken .d 7) (f := .read p) hphase htag]
    rcases hstatus with ⟨hstatus, rfl, rfl⟩ | ⟨hstatus, hlimit, rfl, rfl⟩
    · exact (State.takeAnswer_fault (f := .read p) (s := s.frameTaken .d 7) (OdomStatus.ofNumber_fault hstatus)
        hcut).of_movesOn rfl rfl rfl rfl
    · have hwait : (OdomFields.read p).status = .wait := by
        rw [OdomFields.read, hstatus]
        rfl
      have hmax : s.paramNat .waitLimit ≤ 65535 := hparams.paramNat_le .waitLimit (by decide)
      exact (State.takeAnswer_stuck (s := s.frameTaken .d 7) hwait hcut (le_min hlimit hmax)).of_movesOn rfl rfl rfl rfl
  · refine ⟨_, exec_responseTimerExpiry hrun hresp, ?_⟩
    have hmax : s.paramNat .missLimit ≤ 255 := hparams.paramNat_le .missLimit (by decide)
    have hreached : s.paramNat .missLimit ≤ saturate 255 s.drv.misses 1 := le_min hlimit hmax
    rw [State.miss_eq, if_pos hreached]
    exact (State.driveFault_entered .driveLost 0 (s := s.missed) hcut).of_movesOn rfl rfl rfl rfl

end

end Sys2Proof.Machine
end

-- ==== Proofs: an answer's handover ====
section
/-! The sine table's symmetries (R26), the wheel deltas and the rounding of the heading change (R28, R29), how a record
ends (R55), and that the handover does not look at the WAIT count (R118). -/

namespace Sys2Proof.Machine

section

variable {s : State}

/-! ## The sine table (R26) -/

/-- The first quarter's entry. -/
def quarterAt (i : Nat) : Int := sineQuarter.getD i 0

theorem sine_eq (i : Nat) : sine i =
    if i % 1024 ≤ 256 then quarterAt (i % 1024) else if i % 1024 ≤ 512 then quarterAt (512 - i % 1024)
    else if i % 1024 ≤ 768 then -quarterAt (i % 1024 - 512) else -quarterAt (1024 - i % 1024) := rfl

theorem quarterAt_zero : quarterAt 0 = 0 := rfl

theorem sine_add_full (i : Nat) : sine (i + 1024) = sine i := by
  simp only [sine_eq, Nat.add_mod_right]

theorem sine_mod (i : Nat) : sine (i % 1024) = sine i := by
  simp only [sine_eq, Nat.mod_mod]

/-! Each quarter with both its ends. -/

theorem sine_first {j : Nat} (h : j ≤ 256) : sine j = quarterAt j := by
  rw [sine_eq, Nat.mod_eq_of_lt (by omega), if_pos h]

theorem sine_second {j : Nat} (h : 256 ≤ j) (h' : j ≤ 512) : sine j = quarterAt (512 - j) := by
  rcases h.eq_or_lt with rfl | h
  · exact sine_first le_rfl
  · rw [sine_eq, Nat.mod_eq_of_lt (by omega), if_neg (by omega), if_pos h']

theorem sine_third {j : Nat} (h : 512 ≤ j) (h' : j ≤ 768) : sine j = -quarterAt (j - 512) := by
  rcases h.eq_or_lt with rfl | h
  · exact sine_second (by decide) le_rfl
  · rw [sine_eq, Nat.mod_eq_of_lt (by omega), if_neg (by omega), if_neg (by omega), if_pos h']

theorem sine_fourth {j : Nat} (h : 768 ≤ j) (h' : j ≤ 1024) : sine j = -quarterAt (1024 - j) := by
  rcases h.eq_or_lt with rfl | h
  · exact sine_third (by decide) le_rfl
  rcases h'.eq_or_lt with rfl | h'
  · rfl
  · rw [sine_eq, Nat.mod_eq_of_lt h', if_neg (by omega), if_neg (by omega), if_neg (by omega)]

/-- Half a turn on, the sine changes its sign: in the first half turn. -/
theorem sine_add_half_of_le {j : Nat} (h : j ≤ 512) : sine (j + 512) = -sine j := by
  rcases le_total j 256 with hj | hj
  · rw [sine_first hj, sine_third (by omega) (by omega), Nat.add_sub_cancel]
  · rw [sine_second hj h, sine_fourth (by omega) (by omega), show 1024 - (j + 512) = 512 - j by omega]

theorem sine_add_half (i : Nat) : sine (i + 512) = -sine i := by
  rw [← sine_mod (i + 512), ← Nat.mod_add_mod, sine_mod, ← sine_mod i]
  have hlt : i % 1024 < 1024 := Nat.mod_lt _ (by decide)
  generalize i % 1024 = j at hlt
  rcases le_total j 512 with h | h
  · exact sine_add_half_of_le h
  · obtain ⟨k, rfl⟩ := Nat.exists_eq_add_of_le' h
    rw [Nat.add_assoc, sine_add_full, sine_add_half_of_le (by omega), neg_neg]

theorem sine_reflect {i : Nat} (h : i ≤ 512) : sine (512 - i) = sine i := by
  rcases le_total i 256 with hi | hi
  · rw [sine_first hi, sine_second (by omega) (by omega), Nat.sub_sub_self h]
  · rw [sine_second hi h, sine_first (by omega)]

/-! ## Deltas and rounding (R28, R29) -/

theorem wheelDelta_eq (new old : Nat) : wheelDelta new old = (BitVec.ofInt 16 ((new : Int) - old)).toInt := by
  rw [BitVec.toInt_ofInt, wheelDelta, Int.bmod]
  split_ifs <;> omega

theorem roundDiv_eq {d : Int} (hd : 0 < d) (n : Int) :
    roundDiv n d = n.sign * ((2 * (n.natAbs : Int) + d) / (2 * d)) := by
  rw [roundDiv]
  rcases lt_trichotomy n 0 with h | rfl | h
  · rw [if_neg (by omega), Int.sign_eq_neg_one_of_neg h, Int.ofNat_natAbs_of_nonpos h.le, neg_one_mul]
  · rw [if_pos le_rfl, Int.sign_zero, zero_mul]
    exact Int.ediv_eq_zero_of_lt (by omega) (by omega)
  · rw [if_pos h.le, Int.sign_eq_one_of_pos h, Int.natAbs_of_nonneg h.le, one_mul]

/-! ## The ACTIVE record ends (R55) -/

theorem State.queueEmptied_cruise (h : s.trv.state = .cruise) :
    s.queueEmptied = if s.trv.yield then s.beginApproach else s.enter .idle := by
  simp only [State.queueEmptied, h]

theorem State.queueEmptied_limp (h : s.trv.state = .limp) : s.queueEmptied = s.enter .idle := by
  simp only [State.queueEmptied, h]

/-- In CRUISE and LIMP the record's end is that of the statements. -/
theorem State.completeActive_segmentEnded (g : Segment) (rest : List Segment)
    (hstate : s.trv.state = .cruise ∨ s.trv.state = .limp) (hyield : s.trv.yield = true → s.trv.state = .cruise) :
    ({ s with seg := { s.seg with queue := g :: rest } } : State).completeActive = s.segmentEnded g rest := by
  cases rest with
  | cons n more => rfl
  | nil =>
    let t := ({ s with seg := { s.seg with queue := [] } } : State).raise (.segmentDone g.tag)
    have htrv : t.trv = s.trv := State.raise_trv _ _
    have hdock : t.dock = s.dock := State.raise_dock _ _
    have hparam (p : Param) : t.paramNat p = s.paramNat p :=
      congrArg (fun v : Params => v[p.index].toNat) (State.raise_params _ _)
    change t.queueEmptied = if s.trv.yield then
        ({ t.enter .approach with dock := { s.dock with
          sub := if s.dock.contact then .settle else .seek
          approach := some (1000 * s.paramNat .approachLimit)
          settle := if s.dock.contact then some (s.paramNat .contactSettle) else none
          beamLost := none } } : State).raise .dockGranted
      else t.enter .idle
    rw [← hparam, ← hparam, ← hdock, ← htrv]
    rcases hstate with hstate | hstate
    · rw [State.queueEmptied_cruise (htrv ▸ hstate)]
      rfl
    · rw [State.queueEmptied_limp (htrv ▸ hstate), if_neg]
      intro hy
      rw [htrv] at hy
      rw [hstate] at hyield
      cases hyield hy

/-! ## Progress (R53, R64) -/

theorem State.backoffProgress_running (st : OdomStep) (hstate : s.trv.state = .backoff) {b : Backoff}
    (hback : s.trv.backoff = some b) : s.backoffProgress st =
      if 1000 * b.distance ≤ b.progress + (-st.ds).toNat then
        if b.reason = .undock then
          (s.endBackoff .completed { b with progress := b.progress + (-st.ds).toNat }).raise .undocked
        else s.endBackoff .completed { b with progress := b.progress + (-st.ds).toNat }
      else { s with trv := { s.trv with backoff := some { b with progress := b.progress + (-st.ds).toNat } } } := by
  simp only [State.backoffProgress, hstate, hback]

theorem State.backoffProgress_none (st : OdomStep) (h : s.trv.backoff = none) : s.backoffProgress st = s := by
  cases hstate : s.trv.state <;> simp only [State.backoffProgress, hstate, h]

theorem State.backoffProgress_elsewhere (st : OdomStep) (h : s.trv.state ≠ .backoff) : s.backoffProgress st = s := by
  cases hstate : s.trv.state
  case backoff => exact absurd hstate h
  all_goals simp only [State.backoffProgress, hstate]

theorem State.segmentProgress_nil (st : OdomStep) (h : s.seg.queue = []) : s.segmentProgress st = s := by
  simp only [State.segmentProgress, h]

/-- A record that has taken a step. -/
def Segment.stepped (st : OdomStep) (g : Segment) : Segment :=
  { g with dist := g.dist + st.ds.natAbs, turn := g.turn + st.dh }

theorem State.segmentProgress_cons (st : OdomStep) {g : Segment} {rest : List Segment} (h : s.seg.queue = g :: rest) :
    s.segmentProgress st =
      if g.kind = .distance ∧ 1000 * g.extent ≤ (g.stepped st).dist ∨
          g.kind = .angle ∧ g.extent ≤ (g.stepped st).turn.natAbs then
        ({ s with seg := { s.seg with queue := g.stepped st :: rest } } : State).completeActive
      else { s with seg := { s.seg with queue := g.stepped st :: rest } } := by
  cases hkind : g.kind <;> simp [State.segmentProgress, Segment.stepped, h, hkind]

/-! ## The WAIT count stands apart (R118) -/

/-- The part with another WAIT count. -/
def State.withWaits (n : Nat) (s : State) : State := { s with drv := { s.drv with waits := n } }

section

variable (n : Nat)

theorem State.raise_withWaits (e : Event) (s : State) : (s.withWaits n).raise e = (s.raise e).withWaits n := by
  simp only [State.raise_eq]
  rfl

theorem State.raiseAll_withWaits (es : List Event) (s : State) :
    (s.withWaits n).raiseAll es = (s.raiseAll es).withWaits n := by
  simp only [State.raiseAll_eq]
  rfl

theorem State.enter_withWaits (v : Travel) (s : State) : (s.withWaits n).enter v = (s.enter v).withWaits n := by
  refine State.eq_of_blocks rfl rfl rfl rfl rfl rfl rfl rfl ?_ rfl rfl rfl rfl rfl
  by_cases h : s.trv.state = .docked ∧ v ≠ .docked
  · simp only [State.enter, State.withWaits, if_pos h]
    exact if_pos h
  · simp only [State.enter, State.withWaits, if_neg h]
    exact if_neg h

theorem State.inApproach_withWaits (s : State) : (s.withWaits n).inApproach = s.inApproach.withWaits n := by
  rw [State.inApproach, State.enter_withWaits]
  rfl

theorem State.endBackoff_withWaits (o : BackoffOutcome) (b : Backoff) (s : State) :
    (s.withWaits n).endBackoff o b = (s.endBackoff o b).withWaits n := by
  rw [State.endBackoff, State.enter_withWaits]
  rfl

theorem State.queueEmptied_withWaits (s : State) : (s.withWaits n).queueEmptied = s.queueEmptied.withWaits n := by
  cases hstate : s.trv.state
  case cruise =>
    rw [State.queueEmptied_cruise hstate, State.queueEmptied_cruise (s := s.withWaits n) hstate, State.beginApproach_eq,
      State.beginApproach_eq, State.inApproach_withWaits, State.raise_withWaits, State.enter_withWaits]
    exact (apply_ite (State.withWaits n) _ _ _).symm
  case limp =>
    rw [State.queueEmptied_limp hstate, State.queueEmptied_limp (s := s.withWaits n) hstate, State.enter_withWaits]
  all_goals simp only [State.queueEmptied, State.withWaits, hstate]

theorem State.completeActive_withWaits (s : State) : (s.withWaits n).completeActive = s.completeActive.withWaits n := by
  cases hqueue : s.seg.queue with
  | nil => simp only [State.completeActive, State.withWaits, hqueue]
  | cons g rest =>
    let t := ({ s with seg := { s.seg with queue := activateHead rest } } : State).raise (.segmentDone g.tag)
    have ht : s.completeActive = if rest = [] then t.queueEmptied else t := by
      simp only [State.completeActive, hqueue]
      rfl
    have hw : (s.withWaits n).completeActive = if rest = [] then (t.withWaits n).queueEmptied else t.withWaits n := by
      rw [← State.raise_withWaits]
      simp only [State.completeActive, State.withWaits, hqueue]
    rw [ht, hw, State.queueEmptied_withWaits]
    exact (apply_ite (State.withWaits n) _ _ _).symm

theorem State.setLatch_withWaits (l : Latch) (s : State) :
    (s.withWaits n).setLatch l = (s.setLatch l).withWaits n := rfl

theorem State.backoffProgress_withWaits (st : OdomStep) (s : State) :
    (s.withWaits n).backoffProgress st = (s.backoffProgress st).withWaits n := by
  by_cases hstate : s.trv.state = .backoff
  · cases hback : s.trv.backoff with
    | none => rw [State.backoffProgress_none st hback, State.backoffProgress_none st (s := s.withWaits n) hback]
    | some b =>
      rw [State.backoffProgress_running st hstate hback, State.backoffProgress_running st (s := s.withWaits n) hstate hback,
        State.endBackoff_withWaits, State.raise_withWaits, apply_ite (State.withWaits n), apply_ite (State.withWaits n)]
      rfl
  · rw [State.backoffProgress_elsewhere st hstate, State.backoffProgress_elsewhere st (s := s.withWaits n) hstate]

theorem State.segmentProgress_withWaits (st : OdomStep) (s : State) :
    (s.withWaits n).segmentProgress st = (s.segmentProgress st).withWaits n := by
  cases hqueue : s.seg.queue with
  | nil => rw [State.segmentProgress_nil st hqueue, State.segmentProgress_nil st (s := s.withWaits n) hqueue]
  | cons g rest =>
    rw [State.segmentProgress_cons st hqueue, State.segmentProgress_cons st (s := s.withWaits n) hqueue,
      apply_ite (State.withWaits n), ← State.completeActive_withWaits]
    rfl

/-- What a handover does to the pose and the reports, before its step is handed on (R27). -/
def State.handedOver (r : Handover) (s : State) : State :=
  (if r.odomLoss then ({ s with pose := r.pose } : State).setLatch .odomLoss else { s with pose := r.pose }).raiseAll r.events

theorem State.takeHandover_some (left right : Nat) {base : Nat × Nat} (ready : Bool) (h : s.pose.base = some base) :
    s.takeHandover left right ready = (s.handover left right base ready).step.elim
      (s.handedOver (s.handover left right base ready))
      (s.handedOver (s.handover left right base ready)).handOn := by
  simp only [State.takeHandover, h]
  cases (s.handover left right base ready).step <;> rfl

theorem State.handedOver_withWaits (r : Handover) (s : State) :
    (s.withWaits n).handedOver r = (s.handedOver r).withWaits n := by
  rw [State.handedOver, State.handedOver, ← State.raiseAll_withWaits, apply_ite (State.withWaits n)]
  rfl

theorem State.takeHandover_withWaits (left right : Nat) (ready : Bool) (s : State) :
    (s.withWaits n).takeHandover left right ready = (s.takeHandover left right ready).withWaits n := by
  cases hbase : s.pose.base with
  | none =>
    simp only [State.takeHandover, State.withWaits, hbase]
  | some base =>
    have hsame : (s.withWaits n).handover left right base ready = s.handover left right base ready := rfl
    rw [State.takeHandover_some left right ready hbase, State.takeHandover_some left right ready (s := s.withWaits n) hbase,
      hsame, State.handedOver_withWaits]
    cases (s.handover left right base ready).step with
    | none => rfl
    | some st =>
      change State.handOn st _ = (State.handOn st _).withWaits n
      rw [State.handOn, State.backoffProgress_withWaits, State.segmentProgress_withWaits]
      rfl

end

/-! ## The status of an answer (R118) -/

/-- An answer that raises no drive fault: its WAIT count stands before the handover as well as after it. -/
theorem State.takeAnswer_quiet {f : OdomFields} {n : Nat}
    (h : f.status = .ready ∧ n = 0 ∨
      f.status = .wait ∧ n = saturate 65535 s.drv.waits 1 ∧ n < s.paramNat .waitLimit) :
    s.takeAnswer f = (s.answered.withWaits n).takeHandover f.left f.right (decide (f.status = .ready)) := by
  rw [State.takeHandover_withWaits, State.takeAnswer_eq]
  have hmoves := MovesOn.takeHandover f.left f.right (decide (f.status = .ready)) s.answered
  generalize s.answered.takeHandover f.left f.right (decide (f.status = .ready)) = t at hmoves
  obtain ⟨p, hdrv⟩ := hmoves.drv
  rw [State.actOnStatus]
  rcases h with ⟨hstatus, rfl⟩ | ⟨hstatus, rfl, hlimit⟩
  · rw [hstatus]
    rfl
  · have hwaits : t.drv.waits = s.drv.waits := by rw [hdrv]; rfl
    have hbelow : ¬t.paramNat .waitLimit ≤ saturate 65535 t.drv.waits 1 := by
      rw [hwaits, State.paramNat, State.param, hmoves.params]
      exact Nat.not_le.mpr hlimit
    rw [hstatus, ← hwaits]
    exact if_neg hbelow

end

end Sys2Proof.Machine
end

-- ==== Proofs: the odometry step ====
section
/-! The four stages of a handover in the terms of R27 to R34, and what an answer leaves. -/

namespace Sys2Proof.Machine

section

variable (s : State) (left right : Nat) (base : Nat × Nat) (ready : Prop) [Decidable ready]

/-! ## The stages of a handover (R28 to R34) -/

/-- A wheel delta: the difference of two counters modulo 65,536, as a signed number (R28). -/
def tickDelta (new old : Nat) : Int := (BitVec.ofInt 16 ((new : Int) - old)).toInt

theorem wheelDelta_eq_tickDelta (new old : Nat) : wheelDelta new old = tickDelta new old := wheelDelta_eq new old

/-- A stall count after the odometry reference check (R33). -/
def State.stalled (n : Nat) (sent delta : Int) : Nat :=
  if ¬(ready ∧ s.trv.state ≠ .docked ∧ s.trv.state ≠ .fault) ∨ sent.natAbs < 50 then n
  else if delta = 0 then n + 1 else 0

/-- The left wheel's stall count after the check, and the right's. -/
def State.stalledL : Nat := s.stalled ready s.pose.stallL s.drv.sentL (tickDelta left base.1)
def State.stalledR : Nat := s.stalled ready s.pose.stallR s.drv.sentR (tickDelta right base.2)

/-- A wheel's stall count reaches ODOM_CHECK_K (R34). -/
abbrev State.LosesL : Prop :=
  s.pose.stallL < s.stalledL left base ready ∧ s.paramNat .odomCheckK ≤ s.stalledL left base ready
abbrev State.LosesR : Prop :=
  s.pose.stallR < s.stalledR right base ready ∧ s.paramNat .odomCheckK ≤ s.stalledR right base ready

abbrev State.Loses : Prop := s.LosesL left base ready ∨ s.LosesR right base ready

/-- A wheel's delta lies beyond MAX_TICKS. -/
abbrev State.Jumps : Prop :=
  s.paramNat .maxTicks < (tickDelta left base.1).natAbs ∨ s.paramNat .maxTicks < (tickDelta right base.2).natAbs

/-- A point off the map (R30). -/
abbrev OffMap (x y : Int) : Prop := x < -12800000 ∨ 12799999 < x ∨ y < -12800000 ∨ 12799999 < y

/-- The pose after the check. -/
def State.lossPose : PoseUnit :=
  { s.pose with
    base := some (left, right)
    stallL := if s.LosesL left base ready then 0 else s.stalledL left base ready
    stallR := if s.LosesR right base ready then 0 else s.stalledR right base ready
    quality := if s.Loses left right base ready then s.pose.quality.doubted else s.pose.quality }

/-- The pose after the check, its quality lowered by a loss or for `doubt`. -/
def State.checkedPose (doubt : Prop) [Decidable doubt] : PoseUnit :=
  { s.pose with
    base := some (left, right)
    stallL := if s.LosesL left base ready then 0 else s.stalledL left base ready
    stallR := if s.LosesR right base ready then 0 else s.stalledR right base ready
    quality := if s.pose.quality = .good ∧ (s.Loses left right base ready ∨ doubt) then .degraded else s.pose.quality }

/-- The events of a handover: a loss, and for `doubt` the event of another doubt that lowered a GOOD quality. -/
def State.handoverEvents (doubt : Prop) [Decidable doubt] (reason : PoseDoubt) : List Event :=
  (if s.Loses left right base ready then [.poseDegraded .odomLoss] else []) ++
    (if doubt ∧ s.pose.quality = .good ∧ ¬s.Loses left right base ready then [.poseDegraded reason] else [])

variable {s left right base ready}

theorem stallChecked_eq (n : Nat) (sent delta : Int) :
    (if decide ready && s.trv.state != .docked && s.trv.state != .fault then stallAfter n sent delta else n) =
      s.stalled ready n sent delta := by
  have hchecked : (decide ready && s.trv.state != .docked && s.trv.state != .fault) = true ↔
      ready ∧ s.trv.state ≠ .docked ∧ s.trv.state ≠ .fault := by
    simp [and_assoc]
  rw [State.stalled, stallAfter]
  by_cases h : ready ∧ s.trv.state ≠ .docked ∧ s.trv.state ≠ .fault
  · rw [if_pos (hchecked.mpr h)]
    simp [h]
  · rw [if_neg (mt hchecked.mp h), if_pos (.inl h)]

theorem Quality.doubted_eq (q : Quality) : q.doubted = if q = .good then .degraded else q := by
  cases q <;> rfl

theorem clampToMap_eq (n : Int) : clampToMap n = max (-12800000) (min 12799999 n) := clampInt_eq (by decide) n

theorem clampToMap_ne_iff (x y : Int) : (decide (clampToMap x ≠ x) || decide (clampToMap y ≠ y)) = true ↔ OffMap x y := by
  simp only [Bool.or_eq_true, decide_eq_true_iff, clampToMap_eq]
  omega

theorem stallFires_decide (k n after : Nat) : stallFires k n after = decide (n < after ∧ k ≤ after) :=
  (Bool.decide_and _ _).symm

/-- The quality after a loss and another doubt, each of which lowers it from GOOD alone (R33, R34). -/
theorem Quality.doubted_twice (q : Quality) (loss doubt : Prop) [Decidable loss] [Decidable doubt] :
    (if doubt then (if loss then q.doubted else q).doubted else if loss then q.doubted else q) =
      if q = .good ∧ (loss ∨ doubt) then .degraded else q := by
  by_cases hl : loss <;> by_cases hd : doubt <;> cases q <;> simp [Quality.doubted, hl, hd]

/-- After a loss no quality is GOOD any more. -/
theorem Quality.doubted_good_iff (q : Quality) (loss : Prop) [Decidable loss] :
    (if loss then q.doubted else q) = .good ↔ q = .good ∧ ¬loss := by
  by_cases hl : loss <;> cases q <;> simp [Quality.doubted, hl]

theorem State.checkedPose_eq (doubt : Prop) [Decidable doubt] : s.checkedPose left right base ready doubt =
    { s.lossPose left right base ready with
      quality := if doubt then (s.lossPose left right base ready).quality.doubted
        else (s.lossPose left right base ready).quality } :=
  congrArg (fun q => { s.lossPose left right base ready with quality := q })
    (s.pose.quality.doubted_twice (s.Loses left right base ready) doubt).symm

theorem State.lossPose_good_iff : (s.lossPose left right base ready).quality = .good ↔
    s.pose.quality = .good ∧ ¬s.Loses left right base ready :=
  s.pose.quality.doubted_good_iff _

/-- A handover by its last two stages (R28, R29). -/
theorem State.handover_eq : s.handover left right base (decide ready) =
    if s.Jumps left right base then
      { pose := s.checkedPose left right base ready True
        odomLoss := decide (s.Loses left right base ready)
        events := s.handoverEvents left right base ready True .odomJump
        step := none }
    else
      let st := s.odomStep (tickDelta left base.1) (tickDelta right base.2)
      let r := (s.lossPose left right base ready).integrate st
      { pose := r.1
        odomLoss := decide (s.Loses left right base ready)
        events := (if s.Loses left right base ready then [.poseDegraded .odomLoss] else []) ++
          (if r.2 = true ∧ (s.lossPose left right base ready).quality = .good then [.poseDegraded .mapEdge] else [])
        step := some st } := by
  simp only [State.handover, wheelDelta_eq_tickDelta, stallChecked_eq, stallFires_decide, ← Bool.decide_or,
    decide_eq_true_iff]
  split
  next =>
    simp only [State.checkedPose_eq, State.handoverEvents, true_and, ← State.lossPose_good_iff]
    rfl
  next => rfl

theorem PoseUnit.integrate_eq (p : PoseUnit) (st : OdomStep) : p.integrate st =
    ({ p with
        x := clampToMap (p.advance st).1, y := clampToMap (p.advance st).2.1, h := (p.advance st).2.2
        quality := if OffMap (p.advance st).1 (p.advance st).2.1 then p.quality.doubted else p.quality },
      decide (OffMap (p.advance st).1 (p.advance st).2.1)) := by
  have hclamped : (decide (clampToMap (p.advance st).1 ≠ (p.advance st).1) ||
      decide (clampToMap (p.advance st).2.1 ≠ (p.advance st).2.1)) = decide (OffMap (p.advance st).1 (p.advance st).2.1) := by
    rw [Bool.eq_iff_iff, clampToMap_ne_iff, decide_eq_true_iff]
  simp only [PoseUnit.integrate, hclamped, decide_eq_true_iff]

/-- The step of two deltas: forward travel and heading change (R29). -/
def State.stepOf (s : State) (dl dr : Int) : OdomStep :=
  let turn := (dr * s.param .tickR - dl * s.param .tickL) * 10430
  { ds := (dl * s.param .tickL + dr * s.param .tickR).tdiv 2
    dh := turn.sign * ((2 * (turn.natAbs : Int) + s.param .track) / (2 * s.param .track)) }

theorem State.odomStep_eq (h : 0 < s.param .track) (dl dr : Int) : s.odomStep dl dr = s.stepOf dl dr := by
  rw [State.odomStep, roundDiv_eq h]
  rfl

/-- Where an odometry step leads, before the clamp (R29). -/
def State.advanced (s : State) (left right : Nat) (base : Nat × Nat) : Int × Int × Nat :=
  s.pose.advance (s.stepOf (tickDelta left base.1) (tickDelta right base.2))

/-- The step leads off the map (R30). -/
abbrev State.LeavesMap (s : State) (left right : Nat) (base : Nat × Nat) : Prop :=
  OffMap (s.advanced left right base).1 (s.advanced left right base).2.1

/-- A handover whose step jumps: the step is discarded (R28). -/
theorem State.handover_jumps (h : s.Jumps left right base) : s.handover left right base (decide ready) =
    { pose := s.checkedPose left right base ready True
      odomLoss := decide (s.Loses left right base ready)
      events := s.handoverEvents left right base ready True .odomJump
      step := none } := by
  rw [State.handover_eq, if_pos h]

/-- A handover whose step is integrated (R29, R30). -/
theorem State.handover_steps (ht : 0 < s.param .track) (h : ¬s.Jumps left right base) :
    s.handover left right base (decide ready) =
    { pose := { s.checkedPose left right base ready (s.LeavesMap left right base) with
        x := clampToMap (s.advanced left right base).1
        y := clampToMap (s.advanced left right base).2.1
        h := (s.advanced left right base).2.2 }
      odomLoss := decide (s.Loses left right base ready)
      events := s.handoverEvents left right base ready (s.LeavesMap left right base) .mapEdge
      step := some (s.stepOf (tickDelta left base.1) (tickDelta right base.2)) } := by
  have hadvance : (s.lossPose left right base ready).advance (s.stepOf (tickDelta left base.1) (tickDelta right base.2)) =
      s.advanced left right base := rfl
  rw [State.handover_eq, if_neg h, s.odomStep_eq ht]
  simp only [PoseUnit.integrate_eq, hadvance, decide_eq_true_iff, State.lossPose_good_iff, State.checkedPose_eq]
  rfl

/-- The part after a handover's events. -/
theorem State.handedOver_eq (p : PoseUnit) (doubt : Prop) [Decidable doubt] (reason : PoseDoubt) (step : Option OdomStep)
    (t : State) :
    t.handedOver ⟨p, decide (s.Loses left right base ready), s.handoverEvents left right base ready doubt reason, step⟩ =
      let u : State := if s.Loses left right base ready then
          (({ t with pose := p } : State).setLatch .odomLoss).raise (.poseDegraded .odomLoss)
        else { t with pose := p }
      if doubt ∧ s.pose.quality = .good ∧ ¬s.Loses left right base ready then u.raise (.poseDegraded reason) else u := by
  by_cases hloss : s.Loses left right base ready
  · simp only [State.handedOver, State.handoverEvents, hloss, decide_true, if_true, not_true, and_false, if_false]
    rfl
  · simp only [State.handedOver, State.handoverEvents, hloss, decide_false, if_false, not_false_eq_true, and_true]
    split <;> rfl

end

end Sys2Proof.Machine
end

-- ==== Proofs: an answer integrates its step ====
section
/-! What a step's progress makes of the back-off and of the ACTIVE record (R53, R64), and the statement about answers. -/

namespace Sys2Proof.Machine

section

variable {s : State}

/-! ## The step handed on (R31, R53, R64) -/

theorem State.handOn_still (st : OdomStep) (hback : s.trv.backoff = none) (hqueue : s.seg.queue = []) :
    s.handOn st = s := by
  rw [State.handOn, State.backoffProgress_none st hback, State.segmentProgress_nil st hqueue]

/-- A back-off that has taken a step. -/
def Backoff.stepped (ds : Int) (b : Backoff) : Backoff :=
  { b with progress := if ds < 0 then b.progress + ds.natAbs else b.progress }

theorem State.handOn_backoff (st : OdomStep) (hstate : s.trv.state = .backoff) {b : Backoff}
    (hback : s.trv.backoff = some b) (hqueue : s.seg.queue = []) : s.handOn st =
      if 1000 * b.distance ≤ (b.stepped st.ds).progress then
        if b.reason = .undock then (s.endBackoff .completed (b.stepped st.ds)).raise .undocked
        else s.endBackoff .completed (b.stepped st.ds)
      else { s with trv := { s.trv with backoff := some (b.stepped st.ds) } } := by
  have hprogress : b.progress + (-st.ds).toNat = (b.stepped st.ds).progress := by
    simp only [Backoff.stepped]
    split_ifs <;> omega
  rw [State.handOn, State.backoffProgress_running st hstate hback, hprogress]
  refine State.segmentProgress_nil st ?_
  split
  · split
    · rw [State.raise_seg]
      exact hqueue
    · exact hqueue
  · exact hqueue

theorem State.handOn_segment (st : OdomStep) (hback : s.trv.backoff = none) {g : Segment} {rest : List Segment}
    (hqueue : s.seg.queue = g :: rest) (hstate : s.trv.state = .cruise ∨ s.trv.state = .limp)
    (hyield : s.trv.yield = true → s.trv.state = .cruise) : s.handOn st =
      if g.kind = .distance ∧ 1000 * g.extent ≤ (g.stepped st).dist ∨
          g.kind = .angle ∧ g.extent ≤ (g.stepped st).turn.natAbs then s.segmentEnded (g.stepped st) rest
      else { s with seg := { s.seg with queue := g.stepped st :: rest } } := by
  rw [State.handOn, State.backoffProgress_none st hback, State.segmentProgress_cons st hqueue,
    State.completeActive_segmentEnded _ _ hstate hyield]

theorem State.handedOver_trv (r : Handover) (s : State) : (s.handedOver r).trv = s.trv := by
  rw [State.handedOver, State.raiseAll_trv]
  split <;> rfl

theorem State.handedOver_seg (r : Handover) (s : State) : (s.handedOver r).seg = s.seg := by
  rw [State.handedOver, State.raiseAll_seg]
  split <;> rfl

theorem OdomStatus.ofNumber_ready_iff (b : Byte) : OdomStatus.ofNumber b.toNat = .ready ↔ b = 0 := by
  rw [← BitVec.toNat_inj]
  rcases b.toNat with _ | _ | n <;> simp [OdomStatus.ofNumber]

/-- Settles O48: the answer that is no fault completes the exchange, and the handover is integrated and handed on. -/
theorem answerIntegratesTheStep : Obligations.AnswerIntegratesTheStep := by
  unfold Obligations.AnswerIntegratesTheStep
  refine ⟨⟨fun i => ⟨rfl, sine_add_half i, sine_add_full i⟩, fun i h => sine_reflect h, by decide⟩, ?_⟩
  intro s p hrun hp hphase htag htravel hparams ready hstatus left right t
  have hready : decide ((OdomFields.read p).status = .ready) = decide ready :=
    decide_eq_decide.mpr (OdomStatus.ofNumber_ready_iff (byteAt p 5))
  have hquiet : (OdomFields.read p).status = .ready ∧ (if ready then 0 else s.drv.waits + 1) = 0 ∨
      (OdomFields.read p).status = .wait ∧
        (if ready then 0 else s.drv.waits + 1) = saturate 65535 s.drv.waits 1 ∧
        (if ready then 0 else s.drv.waits + 1) < s.paramNat .waitLimit := by
    rcases hstatus with hr | ⟨hwait, hlimit⟩
    · exact .inl ⟨(OdomStatus.ofNumber_ready_iff _).mpr hr, if_pos hr⟩
    · have hmax : s.paramNat .waitLimit ≤ 65535 := hparams.paramNat_le .waitLimit (by decide)
      have hnot : ¬ready := by
        intro hr
        exact absurd (hr.symm.trans hwait) (by decide)
      rw [if_neg hnot]
      exact .inr ⟨by rw [OdomFields.read, hwait]; rfl, (Nat.min_eq_left (by omega)).symm, hlimit⟩
  have htaken : exec (.odom p) s = .next (t.takeHandover left right (decide ready)) := by
    rw [exec_odom hrun hp, State.takeOdom_answer (s := s.frameTaken .d 7) (f := .read p) hphase htag,
      State.takeAnswer_quiet (s := s.frameTaken .d 7) (f := .read p) hquiet, hready]
    rfl
  split
  next hbase =>
    have hnone : t.pose.base = none := hbase
    rw [htaken]
    simp only [State.takeHandover, hnone]
    rfl
  next base hbase =>
    intro dl dr checked stall nl nr lossL lossR loss jump turn ds dh i x y edge pose moved u u1 u2
    have htrack : 0 < t.param .track := lt_of_lt_of_le (by decide) (hparams.row .track).1
    have hquality (doubt : Prop) [Decidable doubt] (h : doubt ↔ jump ∨ edge) :
        t.checkedPose left right base ready doubt = pose :=
      congrArg (fun q => { pose with quality := q }) (if_congr (and_congr_right fun _ => or_congr_right h) rfl rfl)
    have hu : t.handedOver (t.handover left right base (decide ready)) = u2 := by
      by_cases hjump : jump
      · have hpose : t.checkedPose left right base ready True = if jump then pose else moved :=
          (hquality True (by simp [hjump])).trans (if_pos hjump).symm
        have hu2 : u2 = if True ∧ s.pose.quality = .good ∧ ¬loss then u1.raise (.poseDegraded .odomJump) else u1 := by
          by_cases h : s.pose.quality = .good ∧ ¬loss
          · rw [if_pos ⟨trivial, h⟩]
            exact if_pos ⟨h.1, h.2, hjump⟩
          · rw [if_neg fun h' => h h'.2]
            exact (if_neg fun h' => h ⟨h'.1, h'.2.1⟩).trans (if_neg fun h' => h ⟨h'.1, h'.2.1⟩)
        rw [State.handover_jumps (s := t) hjump, State.handedOver_eq, hpose, hu2]
        rfl
      · have hpose : ({ t.checkedPose left right base ready (t.LeavesMap left right base) with
            x := clampToMap (t.advanced left right base).1
            y := clampToMap (t.advanced left right base).2.1
            h := (t.advanced left right base).2.2 } : PoseUnit) = if jump then pose else moved := by
          rw [if_neg hjump, clampToMap_eq, clampToMap_eq]
          exact congrArg (fun q : PoseUnit => { q with x := moved.x, y := moved.y, h := moved.h })
            (hquality edge (by simp [hjump]))
        have hu2 : u2 = if edge ∧ s.pose.quality = .good ∧ ¬loss then u1.raise (.poseDegraded .mapEdge) else u1 := by
          refine (if_neg fun h => hjump h.2.2).trans (if_congr ?_ rfl rfl)
          exact ⟨fun h => ⟨h.2.2, h.1, h.2.1⟩, fun h => ⟨h.2.1, h.2.2, h.1⟩⟩
        rw [State.handover_steps (s := t) htrack hjump, State.handedOver_eq, hpose, hu2]
        rfl
    have hstep : (t.handover left right base (decide ready)).step =
        if jump then none else some ⟨ds, dh⟩ := by
      split
      next hjump => rw [State.handover_jumps (s := t) hjump]
      next hjump =>
        rw [State.handover_steps (s := t) htrack hjump]
        rfl
    rw [htaken, State.takeHandover_some left right (decide ready) (s := t) hbase, hu, hstep]
    have htrv : u2.trv = s.trv := by rw [← hu, State.handedOver_trv]; rfl
    have hseg : u2.seg = s.seg := by rw [← hu, State.handedOver_seg]; rfl
    clear_value u2
    split
    · rfl
    refine congrArg Host.Outcome.next ?_
    change u2.handOn ⟨ds, dh⟩ = _
    obtain ⟨hqueued, hyield, -, -, hbacked⟩ := htravel
    cases hback : s.trv.backoff with
    | some b =>
      have hstate : s.trv.state = .backoff := hbacked.mp (by rw [hback]; rfl)
      have hqueue : s.seg.queue = [] := by
        by_contra hne
        have := hqueued.mp hne
        rw [hstate] at this
        rcases this with h | h <;> cases h
      have hon := State.handOn_backoff (s := u2) ⟨ds, dh⟩ (by rw [htrv]; exact hstate) (by rw [htrv]; exact hback)
        (by rw [hseg]; exact hqueue)
      rw [htrv] at hon
      exact hon
    | none =>
      cases hqueue : s.seg.queue with
      | nil => exact State.handOn_still _ (by rw [htrv]; exact hback) (by rw [hseg]; exact hqueue)
      | cons g rest =>
        have hon := State.handOn_segment (s := u2) ⟨ds, dh⟩ (by rw [htrv]; exact hback) (g := g) (rest := rest)
          (by rw [hseg]; exact hqueue) (by rw [htrv]; exact hqueued.mp (by rw [hqueue]; simp)) (by rw [htrv]; exact hyield)
        rw [hseg] at hon
        exact hon

end

end Sys2Proof.Machine
end

-- ==== Proofs: the drive period ====
section
/-! What a period event sends, and how it judges the record played and its time (R54, R65, R70, R87, R88, R115, R116). -/

namespace Sys2Proof.Machine

section

variable {s : State}

/-! ## The travel state and what it plays -/

/-- A queue is played in CRUISE and LIMP, a back-off record in BACKOFF, and a yield is pending in CRUISE alone. -/
structure State.Plays (s : State) : Prop where
  queue : s.seg.queue ≠ [] → s.trv.state = .cruise ∨ s.trv.state = .limp
  backoff : s.trv.backoff.isSome = true ↔ s.trv.state = .backoff
  yield : s.trv.yield = true → s.trv.state = .cruise

theorem State.TravelOk.plays (h : s.TravelOk) : s.Plays := ⟨h.1.mp, h.2.2.2.2, h.2.1⟩

/-- What plays is read off the queue and the travel state alone. -/
theorem State.Plays.congr {t : State} (h : s.Plays) (hqueue : t.seg.queue = s.seg.queue) (htrv : t.trv = s.trv) : t.Plays :=
  ⟨by rw [hqueue, htrv]; exact h.queue, by rw [htrv]; exact h.backoff, by rw [htrv]; exact h.yield⟩

theorem State.Plays.of_nil {t : State} (h : s.Plays) (hqueue : t.seg.queue = []) (htrv : t.trv = s.trv) : t.Plays :=
  ⟨fun hne => absurd hqueue hne, by rw [htrv]; exact h.backoff, by rw [htrv]; exact h.yield⟩

theorem State.plays_enter_idle (hqueue : s.seg.queue = []) : (s.enter .idle).Plays :=
  ⟨fun h => absurd hqueue h, ⟨fun h => (by cases h), fun h => (by cases h)⟩,
    fun h => absurd h (by simp [State.enter])⟩

theorem State.plays_inApproach (hqueue : s.seg.queue = []) : s.inApproach.Plays :=
  ⟨fun h => absurd hqueue h, ⟨fun h => (by cases h), fun h => (by cases h)⟩,
    fun h => absurd h (by simp [State.inApproach, State.enter])⟩

theorem State.Plays.raise (h : s.Plays) (e : Event) : (s.raise e).Plays := h.congr (by simp) (by simp)

theorem State.Plays.raiseAll (h : s.Plays) (es : List Event) : (s.raiseAll es).Plays := h.congr (by simp) (by simp)

theorem State.Plays.queueEmptied (h : s.Plays) (hqueue : s.seg.queue = []) : s.queueEmptied.Plays := by
  rw [State.queueEmptied]
  split
  · split
    · exact (State.plays_inApproach hqueue).raise _
    · exact State.plays_enter_idle hqueue
  · exact State.plays_enter_idle hqueue
  · exact h

theorem State.Plays.completeActive (h : s.Plays) : s.completeActive.Plays := by
  rcases s.completeActive_cases with ⟨-, he⟩ | ⟨g, rest, hqueue, he⟩
  · rw [he]
    exact h
  · rw [he]
    have hstate := h.queue (by rw [hqueue]; simp)
    have hdone : (({ s with seg := { s.seg with queue := activateHead rest } } : State).raise (.segmentDone g.tag)).Plays :=
      State.Plays.raise (s := { s with seg := { s.seg with queue := activateHead rest } })
        ⟨fun _ => hstate, h.backoff, h.yield⟩ _
    split
    next hnil => exact hdone.queueEmptied (by rw [State.raise_seg, hnil]; rfl)
    next => exact hdone

/-! ## The elapsed time (R54) -/

/-- A record 10 ms later. -/
def Segment.aged (g : Segment) : Segment := { g with elapsed := g.elapsed + 10 }

theorem State.timeEvent_nil (h : s.seg.queue = []) : s.timeEvent = s := by
  simp only [State.timeEvent, h]

theorem State.timeEvent_cons (hplays : s.Plays) {g : Segment} {rest : List Segment} (h : s.seg.queue = g :: rest) :
    s.timeEvent = if g.kind = .time ∧ g.extent ≤ g.aged.elapsed then s.segmentEnded g.aged rest
      else { s with seg := { s.seg with queue := g.aged :: rest } } := by
  rw [← State.completeActive_segmentEnded g.aged rest (hplays.queue (by rw [h]; simp)) hplays.yield]
  simp only [State.timeEvent, h]
  rfl

theorem State.Plays.timeEvent (h : s.Plays) : s.timeEvent.Plays := by
  rw [State.timeEvent]
  split
  next => exact h
  next g rest hqueue =>
    have haged : ({ s with seg := { s.seg with queue := g.aged :: rest } } : State).Plays :=
      ⟨fun _ => h.queue (by rw [hqueue]; simp), h.backoff, h.yield⟩
    dsimp only
    split
    · exact haged.completeActive
    · exact haged

/-! ## The held time (R65, R87, R88) -/

/-- A held time after a computation below HOLD_LIMIT (R87). -/
theorem State.heldTime_eq {held : Bool} {n : Nat} (h : ¬(held = true ∧ s.paramNat .holdLimit ≤ n + 10)) :
    s.heldTime held n = if held then n + 10 else 0 := by
  cases held
  · rfl
  · exact Nat.min_eq_left (Nat.le_of_lt (Nat.not_le.mp fun h' => h ⟨rfl, h'⟩))

theorem State.holdReached_iff (held : Bool) (n : Nat) :
    s.holdReached held n = true ↔ held = true ∧ s.paramNat .holdLimit ≤ n + 10 := by
  simp [State.holdReached]

/-- The queue is aborted at HOLD_LIMIT (R88, R136). -/
def State.holdEnded (s : State) : State :=
  let t := ({ s.enter .idle with seg := { (s.enter .idle).seg with queue := [] } } : State).raiseAll
    (abortEvents s.seg.queue .holdLimit)
  if s.trv.yield then t.raise (.dockFailed .halted) else t

theorem State.holdLimit_eq (hstate : s.trv.state = .cruise ∨ s.trv.state = .limp) : s.holdLimit = s.holdEnded := by
  refine if_congr ⟨fun h => h.resolve_left fun ha => ?_, .inr⟩ rfl rfl
  rw [ha] at hstate
  rcases hstate with h | h <;> cases h

theorem State.judgeHeld_cons (hplays : s.Plays) {g : Segment} {rest : List Segment} (h : s.seg.queue = g :: rest)
    (held : Bool) : s.judgeHeld held = if held = true ∧ s.paramNat .holdLimit ≤ g.held + 10 then s.holdEnded
      else { s with seg := { s.seg with queue := { g with held := if held then g.held + 10 else 0 } :: rest } } := by
  have hstate := hplays.queue (by rw [h]; simp)
  let t : State := { s with seg := { s.seg with queue := { g with held := s.heldTime held g.held } :: rest } }
  have hjudged : s.judgeHeld held = if s.holdReached held g.held then t.holdLimit else t := by
    rcases hstate with hstate | hstate <;> simp only [State.judgeHeld, hstate, h] <;> rfl
  rw [hjudged]
  simp only [State.holdReached_iff]
  split
  next hreached =>
    have hevents : abortEvents t.seg.queue .holdLimit = abortEvents s.seg.queue .holdLimit := by
      rw [h]
      rfl
    rw [State.holdLimit_eq (s := t) hstate, State.holdEnded, State.holdEnded, hevents]
    rfl
  next hreached =>
    simp only [t, State.heldTime_eq hreached]

theorem State.judgeHeld_backoff (hplays : s.Plays) {b : Backoff} (hback : s.trv.backoff = some b)
    (held : Bool) : s.judgeHeld held = if held = true ∧ s.paramNat .holdLimit ≤ b.held + 10 then s.endBackoff .blocked b
      else { s with trv := { s.trv with backoff := some { b with held := if held then b.held + 10 else 0 } } } := by
  have hstate := hplays.backoff.mp (by rw [hback]; rfl)
  simp only [State.judgeHeld, hstate, hback, State.holdReached_iff]
  split
  next hreached => rfl
  next hreached => rw [State.heldTime_eq hreached]

theorem State.judgeHeld_still (hplays : s.Plays) (h : s.seg.queue = []) (hback : s.trv.backoff = none) (held : Bool) :
    s.judgeHeld held = s := by
  have hnot : s.trv.state ≠ .backoff := fun hs => by
    have := hplays.backoff.mpr hs
    rw [hback] at this
    cases this
  cases hstate : s.trv.state
  case backoff => exact absurd hstate hnot
  all_goals simp only [State.judgeHeld, hstate, h]

theorem State.Plays.judgeHeld (hplays : s.Plays) (held : Bool) : (s.judgeHeld held).Plays := by
  cases hqueue : s.seg.queue with
  | cons g rest =>
    rw [State.judgeHeld_cons hplays hqueue]
    split
    · rw [State.holdEnded]
      have hidle : (({ s.enter .idle with seg := { (s.enter .idle).seg with queue := [] } } : State).raiseAll
          (abortEvents s.seg.queue .holdLimit)).Plays :=
        (State.plays_enter_idle (s := { s with seg := { s.seg with queue := [] } }) rfl).raiseAll _
      dsimp only
      split
      · exact hidle.raise _
      · exact hidle
    · exact ⟨fun _ => hplays.queue (by rw [hqueue]; simp), hplays.backoff, hplays.yield⟩
  | nil =>
    cases hback : s.trv.backoff with
    | none =>
      rw [State.judgeHeld_still hplays hqueue hback]
      exact hplays
    | some b =>
      rw [State.judgeHeld_backoff hplays hback]
      split
      · have hidle := State.plays_enter_idle hqueue
        exact ⟨hidle.queue, hidle.backoff, hidle.yield⟩
      · exact ⟨fun h => absurd hqueue h, ⟨fun _ => hplays.backoff.mp (by rw [hback]; rfl), fun _ => rfl⟩, hplays.yield⟩

/-! ## The two halves of a period event (R70, R115, R116) -/

theorem exec_drivePeriod (hrun : s.phase = .running) (hper : s.drv.period.isSome = true) (order : PeriodOrder) :
    exec (.drivePeriod order) s = .next (s.periodEvent order) := by
  rw [show exec (.drivePeriod order) s = execDrivePeriod order s from rfl, execDrivePeriod, State.onRunning_running _ hrun]
  exact congrArg Host.Outcome.next (if_pos hper)

/-- The part once its computation is recorded and its DRIVE frame handed to the line (R69, R116). -/
def State.driven (s : State) : State := ({ s with env := s.envelopeAfter } : State).sendDrive s.computation

theorem State.envelopeEvent_eq (s : State) : s.envelopeEvent = s.driven.judgeHeld s.computation.held := rfl

theorem MovesOn.timeEvent (s : State) : MovesOn s s.timeEvent := by
  rw [State.timeEvent]
  split
  · exact .refl s
  · dsimp only
    split
    · exact (MovesOn.of_queue _ s).trans (MovesOn.completeActive _)
    · exact MovesOn.of_queue _ s

/-- Settles O34: each half of a period event has its equation while the queue, the back-off and the yield agree with the
travel state, and both halves keep that agreement. -/
theorem drivePeriodPlaysItsComputation : Obligations.DrivePeriodPlaysItsComputation := by
  unfold Obligations.DrivePeriodPlaysItsComputation
  intro s hrun hper htravel limit begun sent judged timed
  have hplays : begun.Plays := State.Plays.congr htravel.plays rfl rfl
  have htimed {u : State} (hu : u.Plays) : u.timeEvent = timed u := by
    simp only [timed]
    cases hqueue : u.seg.queue with
    | nil => exact State.timeEvent_nil hqueue
    | cons g rest => exact State.timeEvent_cons hu hqueue
  have hsent {u : State} (hp : u.params = s.params) : u.driven = sent u := by
    have hresponse : u.paramNat .responseTimeout = s.paramNat .responseTimeout := by
      rw [State.paramNat, State.param, hp]
      rfl
    simp only [sent, ← hresponse]
    rfl
  have hjudged {u : State} (hu : u.Plays) (hp : u.params = s.params) (held : Bool) : u.judgeHeld held = judged u held := by
    have hlimit : u.paramNat .holdLimit = limit := by
      rw [State.paramNat, State.param, hp]
      rfl
    simp only [judged, ← hlimit]
    cases hqueue : u.seg.queue with
    | cons g rest =>
      rw [State.judgeHeld_cons hu hqueue, State.holdEnded, hqueue]
    | nil =>
      cases hback : u.trv.backoff with
      | none => exact State.judgeHeld_still hu hqueue hback held
      | some b => exact State.judgeHeld_backoff hu hback held
  refine ⟨?_, ?_⟩
  · have hdriven : (sent begun).Plays := hplays.congr rfl rfl
    rw [exec_drivePeriod hrun hper, ← hjudged (u := sent begun) hdriven rfl, ← htimed (hdriven.judgeHeld _),
      ← hsent (u := begun) rfl]
    rfl
  · have hmoves := MovesOn.timeEvent begun
    have hlater : begun.timeEvent.Plays := hplays.timeEvent
    have hdriven : (sent begun.timeEvent).Plays := hlater.congr rfl rfl
    rw [exec_drivePeriod hrun hper, ← htimed hplays, ← hjudged hdriven hmoves.params, 
      ← hsent (u := begun.timeEvent) hmoves.params]
    rfl

end

end Sys2Proof.Machine
end

-- ==== Proofs: the expiries of the timers ====
section
/-! The cadence, grace, approach, beam-lost, settle, sensor-loss and telemetry expiries (R58, R59, R61, R109, R142 to R144, R171). -/

namespace Sys2Proof.Machine

section

variable {s : State}

/-! ## Each expiry of a running timer runs its reaction -/

theorem exec_cadenceExpiry (hrun : s.phase = .running) (h : s.seg.cadence.isSome = true) :
    exec .cadenceExpiry s = .next s.cadenceLost := by
  rw [show exec .cadenceExpiry s = execCadenceExpiry s from rfl, execCadenceExpiry, State.onRunning_running _ hrun, if_pos h]

theorem exec_limpGraceExpiry (hrun : s.phase = .running) (h : s.trv.grace.isSome = true) :
    exec .limpGraceExpiry s = .next s.graceEnds := by
  rw [show exec .limpGraceExpiry s = execLimpGraceExpiry s from rfl, execLimpGraceExpiry, State.onRunning_running _ hrun,
    if_pos h]

theorem exec_approachTimerExpiry (hrun : s.phase = .running) (h : s.dock.approach.isSome = true) :
    exec .approachTimerExpiry s = .next s.approachTimeout := by
  rw [show exec .approachTimerExpiry s = execApproachTimerExpiry s from rfl, execApproachTimerExpiry,
    State.onRunning_running _ hrun, if_pos h]

theorem exec_beamLostExpiry (hrun : s.phase = .running) (h : s.dock.beamLost.isSome = true) :
    exec .beamLostExpiry s = .next s.beamTimeout := by
  rw [show exec .beamLostExpiry s = execBeamLostExpiry s from rfl, execBeamLostExpiry, State.onRunning_running _ hrun,
    if_pos h]

theorem exec_settleExpiry (hrun : s.phase = .running) (h : s.dock.settle.isSome = true) :
    exec .settleExpiry s = .next s.dockNow := by
  rw [show exec .settleExpiry s = execSettleExpiry s from rfl, execSettleExpiry, State.onRunning_running _ hrun, if_pos h]

theorem exec_sensorLossExpiry (hrun : s.phase = .running) (h : s.haz.loss.isSome = true) :
    exec .sensorLossExpiry s = .next s.sensorLoss := by
  rw [show exec .sensorLossExpiry s = execSensorLossExpiry s from rfl, execSensorLossExpiry, State.onRunning_running _ hrun,
    if_pos h]

theorem exec_telemetryExpiry (hrun : s.phase = .running) (h : s.rep.tele.isSome = true) :
    exec .telemetryExpiry s = .next s.telemetry := by
  rw [show exec .telemetryExpiry s = execTelemetryExpiry s from rfl, execTelemetryExpiry, State.onRunning_running _ hrun,
    if_pos h]

/-! ## Cadence and grace (R58, R59, R61) -/

/-- Under STOP, or with no grace, the expiry aborts the queue. -/
theorem State.cadenceLost_stop (h : ¬(s.paramNat .cadencePolicy = 1 ∧ 0 < s.paramNat .limpGrace)) :
    s.cadenceLost = ((s.raise (.cadenceLost (s.paramNat .cadencePolicy))).abortWhole .cadence).enter .idle := if_neg h

/-- Under LIMP, the expiry keeps the queue and starts the grace timer. -/
theorem State.cadenceLost_limp (h : s.paramNat .cadencePolicy = 1 ∧ 0 < s.paramNat .limpGrace) :
    s.cadenceLost = (s.raise (.cadenceLost (s.paramNat .cadencePolicy))).enterLimp := if_pos h

/-- LIMP entered in CRUISE with nothing but the cadence timer running. -/
theorem State.enterLimp_cruise (hstate : s.trv.state = .cruise) (hyield : s.trv.yield = false)
    (hback : s.trv.backoff = none) (hsub : s.dock.sub = .none_) (happr : s.dock.approach = none)
    (hbeam : s.dock.beamLost = none) (hsettle : s.dock.settle = none) :
    s.enterLimp = { s with
      trv := { s.trv with state := .limp, grace := some (s.paramNat .limpGrace) }
      seg := { s.seg with cadence := none } } := by
  refine State.eq_of_blocks rfl rfl rfl rfl rfl ?_ rfl rfl ?_ ?_ rfl rfl rfl rfl
  · simp only [State.enterLimp, State.enter, hyield, hback]
    rfl
  · simp only [State.enterLimp, State.enter, hstate]
    rfl
  · simp only [State.enterLimp, State.enter]
    generalize s.dock = dock at hsub happr hbeam hsettle
    obtain ⟨sub, codeL, codeR, contact, approach, beamLost, settle, beacon⟩ := dock
    subst hsub happr hbeam hsettle
    rfl

/-- Settles O57: the expiry under each policy, and the grace expiry, are the abort or the entry to LIMP of R58 to R61. -/
theorem cadenceAndGraceExpire : Obligations.CadenceAndGraceExpire := by
  unfold Obligations.CadenceAndGraceExpire
  intro s hrun grace lost emptied
  have hqueue : (s.raise (.cadenceLost (s.paramNat .cadencePolicy))).seg.queue = s.seg.queue := by simp
  refine ⟨fun hcad hstop => ?_, fun hcad hstate hyield hsub happr hbeam hsettle hback hpolicy hgrace => ?_, fun hgr => ?_⟩
  · rw [exec_cadenceExpiry hrun hcad, State.cadenceLost_stop hstop, State.abortWhole_eq, hqueue]
  · rw [exec_cadenceExpiry hrun hcad, State.cadenceLost_limp ⟨hpolicy, hgrace⟩,
      State.enterLimp_cruise (by simpa using hstate) (by simpa using hyield) (by simpa using hback) (by simpa using hsub)
        (by simpa using happr) (by simpa using hbeam) (by simpa using hsettle)]
    simp [lost, grace, State.paramNat, State.param]
  · exact exec_limpGraceExpiry hrun hgr

/-! ## Sensor loss (R108, R109) -/

theorem Travel.not_moving_iff (u : Travel) :
    ¬u.moving = true ↔ u = .halted ∨ u = .docked ∨ u = .fault ∨ u = .locked := by
  cases u <;> simp [Travel.moving]

/-- Settles O58: the reaction by travel state, moving, HALTED and the others. -/
theorem sensorLossHaltsOrIsRecorded : Obligations.SensorLossHaltsOrIsRecorded := by
  unfold Obligations.SensorLossHaltsOrIsRecorded
  intro s hrun hloss z t reported u
  have hreaction : t.sensorLossReaction = u ∧ u.haz = z := by
    by_cases hmove : s.trv.state.moving = true
    · have hout : ¬(s.trv.state = .docked ∨ s.trv.state = .fault ∨ s.trv.state = .locked) := fun h =>
        (Travel.not_moving_iff _).mpr (.inr h) hmove
      have hhalted : s.trv.state ≠ .halted := fun h => (Travel.not_moving_iff _).mpr (.inl h) hmove
      have hu : u = reported.halt .sensorLost := (if_neg hhalted).trans (if_neg hout)
      refine ⟨(if_pos hmove).trans hu.symm, ?_⟩
      obtain ⟨-, -, -, -, -, -, -, -, -, -, -, -, hhaz, -⟩ := State.halt_effect .sensorLost reported
      rw [hu, hhaz]
      simp [reported, t]
    · by_cases hhalted : s.trv.state = .halted
      · have hu : u = if s.haz.silent then t else reported := if_pos hhalted
        cases hsilent : s.haz.silent with
        | true =>
          rw [hsilent, if_pos rfl] at hu
          exact ⟨((if_neg hmove).trans (if_neg (by simp [t, z, hsilent]))).trans hu.symm, by rw [hu]⟩
        | false =>
          rw [hsilent, if_neg (by decide)] at hu
          exact ⟨((if_neg hmove).trans (if_pos ⟨hhalted, hsilent⟩)).trans hu.symm, by rw [hu]; simp [reported, t]⟩
      · have hout := ((Travel.not_moving_iff _).mp hmove).resolve_left hhalted
        have hu : u = t := (if_neg hhalted).trans (if_pos hout)
        exact ⟨((if_neg hmove).trans (if_neg fun h => hhalted h.1)).trans hu.symm, by rw [hu]⟩
  rw [exec_sensorLossExpiry hrun hloss, ← hreaction.2, ← hreaction.1]
  rfl

/-! ## The timers of an approach (R142 to R144) -/

/-- Settles O59: each expiry is its reaction, the beam-lost and settle expiries naming what they leave. -/
theorem approachTimersExpire : Obligations.ApproachTimersExpire := by
  unfold Obligations.ApproachTimersExpire
  intro s hrun
  exact ⟨exec_approachTimerExpiry hrun, exec_beamLostExpiry hrun, exec_settleExpiry hrun⟩

/-! ## Telemetry (R171, R189) -/

/-- The tag and the progress of the ACTIVE record take five bytes. -/
theorem SegmentQueue.length_activeData (q : SegmentQueue) : q.activeData.length = 5 := by
  rw [SegmentQueue.activeData]
  split <;> exact congrArg (· + 1) (length_carryCount _)

theorem State.length_teleFrame (s : State) : s.teleFrame.payload.length = 33 := by
  simp only [State.teleFrame, List.length_append, SegmentQueue.length_activeData]
  rfl

theorem State.pushLow_params (f : Frame) (skip : Counter) (s : State) : (s.pushLow f skip).params = s.params := by
  rcases State.pushLow_cases f skip s with ⟨-, h⟩ | ⟨-, h⟩ <;> rw [h] <;> rfl

/-- Settles O60: the frame's fields in their order, and where it goes. -/
theorem telemetrySendsOrSkips : Obligations.TelemetrySendsOrSkips := by
  unfold Obligations.TelemetrySendsOrSkips
  intro s hrun htele progress payload t
  have hprogress : progress = s.seg.activeData := by
    simp only [progress, SegmentQueue.activeData]
    cases s.seg.queue <;> rfl
  have hpayload : payload = s.teleFrame.payload := by
    simp only [payload, hprogress, State.teleFrame, PoseUnit.data, State.latchBytes, List.append_assoc, List.cons_append,
      List.nil_append]
  have ht : s.pushLow s.teleFrame .teleSkip = t := by
    simp only [t, hpayload]
    rfl
  refine ⟨?_, by rw [hpayload, State.length_teleFrame]⟩
  have hperiod : t.paramNat .telePeriod = s.paramNat .telePeriod := by
    rw [← ht, State.paramNat, State.param, State.pushLow_params]
    rfl
  rw [exec_telemetryExpiry hrun htele, State.telemetry, ht, State.teleInterval, hperiod]

end

end Sys2Proof.Machine
end

-- ==== Proofs: what a drive period sends ====
section
/-! A forced stop sends zero, and a drive period's wheel mean keeps to the bound (R73, R82, R83, R85, R115, R116). -/

namespace Sys2Proof.Machine

section

variable {s : State}

/-! ## A forced stop (R73) -/

theorem State.target_stopped (h : s.trv.state = .halted ∨ s.trv.state = .fault ∨ s.trv.state = .docked ∨
    s.trv.state = .approach ∧ s.dock.sub = .settle) : s.target = none := by
  rcases h with h | h | h | ⟨h, hsub⟩
  · simp only [State.target, h]
  · simp only [State.target, h]
  · simp only [State.target, h]
  · simp only [State.target, h, State.approachTarget, hsub]

theorem State.computation_none (h : s.target = none) : s.computation = .forcedStop := by
  simp only [State.computation, h]

theorem State.computation_some {goal : Target} (h : s.target = some goal) : s.computation = s.compute goal := by
  simp only [State.computation, h]

/-- Nothing is judged where neither a queue nor a back-off record is played. -/
theorem State.judgeHeld_unplayed (held : Bool) (hc : s.trv.state ≠ .cruise) (hl : s.trv.state ≠ .limp)
    (hb : s.trv.state ≠ .backoff) : s.judgeHeld held = s := by
  rw [State.judgeHeld]
  split
  next h => exact absurd h hc
  next h => exact absurd h hl
  next h => exact absurd h hb
  next => rfl

/-- The part while a forced stop's DRIVE is on the line. -/
theorem State.driven_stopped (h : s.target = none) : s.driven = { s with
    env := { p := 0, lastD := 1280, lastBound := 0, left := 0, right := 0 }
    port := { s.port with dTx := s.port.dTx ++ [{ kind := 0x40, payload := [carry8 s.drv.nextTag, 0, 0, 0, 0, 0, 0] }] }
    drv := { s.drv with
      exTag := s.drv.nextTag, nextTag := (s.drv.nextTag + 1) % 16, phase := .outstanding
      response := some (s.paramNat .responseTimeout), sentL := 0, sentR := 0 } } := by
  rw [State.driven, State.envelopeAfter, State.computation_none h]
  rfl

/-- Settles O50: without a target the computation is the forced stop, and with the queue empty nothing else plays. -/
theorem forcedStopSendsZero : Obligations.ForcedStopSendsZero := by
  unfold Obligations.ForcedStopSendsZero
  intro s order hrun hper hqueue hstate
  have htarget : s.beginInterval.target = none := State.target_stopped (s := s.beginInterval) hstate
  have hjudged : s.beginInterval.envelopeEvent = s.beginInterval.driven := by
    refine State.judgeHeld_unplayed _ ?_ ?_ ?_ <;>
      (change s.trv.state ≠ _; intro hs; rw [hs] at hstate; simp at hstate)
  have hperiod : s.periodEvent order = s.beginInterval.driven := by
    cases order with
    | envelopeFirst =>
      rw [show s.periodEvent .envelopeFirst = s.beginInterval.envelopeEvent.timeEvent from rfl, hjudged]
      exact State.timeEvent_nil hqueue
    | queueFirst =>
      rw [show s.periodEvent .queueFirst = s.beginInterval.timeEvent.envelopeEvent from rfl,
        State.timeEvent_nil (s := s.beginInterval) hqueue, hjudged]
  rw [exec_drivePeriod hrun hper, hperiod, State.driven_stopped htarget]
  rfl

/-! ## The wheels (R83, R85) -/

/-- The sum of two wheel speeds clamped about `v` is no greater in magnitude than 2 × v, and has its sign. -/
theorem State.wheel_sum (hp : s.ParamsOk) (v q : Int) :
    (s.wheel (v - q) + s.wheel (v + q)).natAbs ≤ 2 * v.natAbs ∧ (v ≤ 0 → s.wheel (v - q) + s.wheel (v + q) ≤ 0) := by
  have hmax : (100 : Int) ≤ s.param .wheelMax := (hp.row .wheelMax).1
  simp only [State.wheel, clampInt]
  constructor
  · split_ifs <;> omega
  · intro hv
    split_ifs <;> omega

theorem cutTo_le {bound u : Int} (hb : 0 ≤ bound) : (cutTo bound u).natAbs ≤ bound.toNat ∧ (u ≤ 0 → cutTo bound u ≤ 0) := by
  rw [cutTo]
  split
  next h => exact ⟨by omega, id⟩
  next h =>
    rcases lt_trichotomy u 0 with hu | hu | hu
    · rw [Int.sign_eq_neg_one_of_neg hu]
      omega
    · subst hu
      simp
    · rw [Int.sign_eq_one_of_pos hu]
      omega

/-! ## The least of the terms (R82) -/

/-- A least term is no greater than any of them. -/
theorem foldl_min_le_of_mem {b : Int} : ∀ {l : List Int}, b ∈ l → ∀ a : Int, l.foldl min a ≤ b
  | x :: xs, hb, a => by
    rcases List.mem_cons.mp hb with rfl | hb
    · exact (foldl_min_le_init xs (min a b)).trans (min_le_right _ _)
    · exact foldl_min_le_of_mem hb (min a x)

/-- A least term is one of them. -/
theorem foldl_min_mem (l : List Int) : ∀ a : Int, l.foldl min a = a ∨ l.foldl min a ∈ l := by
  induction l with
  | nil => exact fun a => .inl rfl
  | cons x xs ih =>
    intro a
    rcases ih (min a x) with h | h
    · rcases min_choice a x with hm | hm <;> rw [hm] at h
      · exact .inl (by rw [List.foldl_cons, hm, h])
      · exact .inr (by rw [List.foldl_cons, hm, h]; exact List.mem_cons_self)
    · exact .inr (List.mem_cons_of_mem _ h)

theorem State.bound_unsafe (hp : s.ParamsOk) (r : Rays) {u : Int} (hu : 0 < u) (hunsafe : s.haz.anyUnsafe = true) {d : Int}
    (hd : d ≤ 1280) : s.bound r u d = 0 := by
  refine le_antisymm (foldl_min_le_of_mem ?_ _) (State.bound_range hp r u hd).1
  simp [State.boundTerms, hu, hunsafe]

/-! ## The mean of the wheels (R85) -/

/-- A pair of wheel speeds keeps to a bound, and goes forward only where the part may. -/
structure WheelsKeep (s : State) (left right bound : Int) : Prop where
  mean : (left + right).natAbs ≤ 2 * bound.toNat
  forward : s.haz.anyUnsafe = true → left + right ≤ 0
  range : (-700 ≤ left ∧ left ≤ 700) ∧ -700 ≤ right ∧ right ≤ 700

theorem State.compute_wheels (hp : s.ParamsOk) (goal : Target) :
    WheelsKeep s (s.compute goal).left (s.compute goal).right (s.compute goal).bound := by
  let u := ramp (rampStep (s.param .accel)) (rampStep (s.param .decel)) s.env.p goal.v
  let r := s.rays (probeHeading s.pose.h u)
  let bound := if u = 0 then 0 else s.bound r u (if u = 0 then 1280 else s.blockingDistance r)
  let v := if u = 0 then 0 else cutTo bound u
  have hv : v.natAbs ≤ bound.toNat ∧ (s.haz.anyUnsafe = true → v ≤ 0) := by
    by_cases hzero : u = 0
    · simp [v, hzero]
    · have hbound : bound = s.bound r u (s.blockingDistance r) := by
        simp only [bound, if_neg hzero]
      have hd := (s.blockingDistance_range r).2
      have hnonneg : 0 ≤ bound := by
        rw [hbound]
        exact (State.bound_range hp r u hd).1
      obtain ⟨hle, hsign⟩ := cutTo_le (u := u) hnonneg
      simp only [v, if_neg hzero]
      refine ⟨hle, fun hunsafe => ?_⟩
      by_cases hpos : 0 < u
      · rw [hbound, State.bound_unsafe hp r hpos hunsafe hd] at hle ⊢
        omega
      · exact hsign (by omega)
  obtain ⟨hmean, hforward⟩ := State.wheel_sum hp v (halfDifference (turnRate goal v) (s.param .track))
  exact ⟨hmean.trans (Nat.mul_le_mul_left 2 hv.1), fun hunsafe => hforward (hv.2 hunsafe),
    State.wheel_range hp _, State.wheel_range hp _⟩

theorem State.computation_wheels (hp : s.ParamsOk) :
    WheelsKeep s s.computation.left s.computation.right s.computation.bound := by
  cases htarget : s.target with
  | none =>
    rw [State.computation_none htarget]
    exact ⟨by decide, fun _ => by decide, by decide⟩
  | some goal =>
    rw [State.computation_some htarget]
    exact State.compute_wheels hp goal

/-! ## Around the computation -/

theorem MovesOn.judgeHeld (held : Bool) (s : State) : MovesOn s (s.judgeHeld held) := by
  have hlimit (u : State) : MovesOn u u.holdLimit := by
    have habort : MovesOn u ((u.enter .idle).abortWhole .holdLimit) :=
      ((MovesOn.enter (by decide) u).trans (MovesOn.of_queue [] _)).trans (MovesOn.raiseAll _ _)
    rw [State.holdLimit, State.raiseDockFailed]
    split
    · exact habort.trans (MovesOn.raise _ _)
    · exact habort
  have hqueue : MovesOn s (match s.seg.queue with
      | [] => s
      | g :: rest =>
        let t := { s with seg := { s.seg with queue := { g with held := s.heldTime held g.held } :: rest } }
        if s.holdReached held g.held then t.holdLimit else t) := by
    split
    · exact .refl s
    · dsimp only
      split
      · exact (MovesOn.of_queue _ s).trans (hlimit _)
      · exact MovesOn.of_queue _ s
  rw [State.judgeHeld]
  split
  · exact hqueue
  · exact hqueue
  · split
    · exact .refl s
    · dsimp only
      split
      · exact MovesOn.endBackoff _ _ s
      · exact ⟨rfl, rfl, rfl, rfl, rfl, rfl, ⟨_, rfl⟩, id⟩
  · exact .refl s

/-- Where nothing is played, the passing of time leaves the travel state. -/
theorem State.timeEvent_state (hc : s.trv.state ≠ .cruise) (hl : s.trv.state ≠ .limp) :
    s.timeEvent.trv.state = s.trv.state := by
  have hemptied (u : State) (hu : u.trv.state = s.trv.state) : u.queueEmptied.trv.state = s.trv.state := by
    rw [State.queueEmptied]
    split
    next h => exact absurd (hu.symm.trans h) hc
    next h => exact absurd (hu.symm.trans h) hl
    next => exact hu
  rw [State.timeEvent]
  split
  · rfl
  · dsimp only
    split
    · rcases State.completeActive_cases (s := _) with ⟨-, h⟩ | ⟨g, rest, -, h⟩ <;> rw [h]
      split
      · exact hemptied _ (by simp)
      · simp
    · rfl

/-- The part around a period's computation: `v` is the part as it computes, and `t` the part after the event. -/
theorem exec_drivePeriod_driven (hrun : s.phase = .running) (hper : s.drv.period.isSome = true) (order : PeriodOrder) :
    ∃ v t, exec (.drivePeriod order) s = .next t ∧ MovesOn s.beginInterval v ∧ MovesOn v.driven t ∧
      (s.trv.state ≠ .cruise → s.trv.state ≠ .limp → v.trv.state = s.trv.state) := by
  cases order with
  | envelopeFirst =>
    exact ⟨s.beginInterval, _, exec_drivePeriod hrun hper _, .refl _,
      (MovesOn.judgeHeld s.beginInterval.computation.held _).trans (MovesOn.timeEvent _), fun _ _ => rfl⟩
  | queueFirst =>
    exact ⟨s.beginInterval.timeEvent, _, exec_drivePeriod hrun hper _, MovesOn.timeEvent _,
      MovesOn.judgeHeld s.beginInterval.timeEvent.computation.held _,
      fun hc hl => State.timeEvent_state (s := s.beginInterval) hc hl⟩

/-- Settles O51: the wheels of a computation keep to its bound, and neither half of a period event touches what it sent. -/
theorem wheelMeanWithinBound : Obligations.WheelMeanWithinBound := by
  unfold Obligations.WheelMeanWithinBound
  intro s order hrun hper htables
  obtain ⟨v, t, hexec, hbefore, hafter, hstate⟩ := exec_drivePeriod_driven hrun hper order
  obtain ⟨p, hdrv⟩ := hbefore.drv
  obtain ⟨q, hsent⟩ := hafter.drv
  have hparams : v.ParamsOk := by
    have : v.params = s.params := hbefore.params
    simpa only [State.ParamsOk, State.param, this] using htables.1
  obtain ⟨hmean, hforward, ⟨hleft, hleft'⟩, hright⟩ := State.computation_wheels hparams
  refine ⟨t, v.computation.left, v.computation.right, hexec, ⟨carry8 v.computation.brush.number,
    carryFlag v.computation.side, ?_⟩, by rw [hsent]; rfl, by rw [hsent]; rfl, hleft, hleft', hright.1, hright.2, ?_,
    fun hunsafe => hforward ?_, fun hstopped => ?_⟩
  · have htag : v.drv.nextTag = s.drv.nextTag := by
      rw [hdrv]
      rfl
    have hdTx : v.port.dTx = s.port.dTx := hbefore.dTx
    rw [hafter.dTx, ← htag, ← hdTx]
    rfl
  · rw [hafter.env]
    exact hmean
  · rw [hbefore.haz]
    exact hunsafe
  · have hkept := hstate (by rintro h; rw [h] at hstopped; simp at hstopped)
      (by rintro h; rw [h] at hstopped; simp at hstopped)
    rw [← hkept] at hstopped
    rw [State.computation_none (State.target_stopped (hstopped.imp_right (Or.imp_right .inl)))]
    exact ⟨rfl, rfl⟩

end

end Sys2Proof.Machine
end

-- ==== Proofs: the stages of a SENSE frame ====
section
/-! What each stage of a SENSE frame does without an edge, and what a frame without one does (R94, R95, R98, R99, R104, R106, R108, R172). -/

namespace Sys2Proof.Machine

section

variable {s t : State} {f : SenseFields}

theorem exec_sense {p : List Byte} (hrun : s.phase = .running) (hlen : p.length = 16) :
    exec (.sense p) s = .next ((s.frameTaken .s 16).takeSense (.read p)) := by
  rw [show exec (.sense p) s = execSense p s from rfl, execSense, State.takeSLink, State.onRunning_running _ hrun]
  dsimp only
  rw [if_pos ⟨rfl, hlen⟩, hlen]

/-! ## The hazard record -/

/-- The part with its hazard record replaced. -/
def State.withHaz (z : HazardUnit) (s : State) : State := { s with haz := z }

/-- A frame heard: its link's receiver hunts again, and its gap is counted (R94, R178). -/
def State.heard (f : SenseFields) (s : State) : State :=
  (s.frameTaken .s 16).count .senseGap (missingFrames s.haz.lastSeq f.seq)

/-- The hazard record after stage 1 (R94, R108). -/
def State.listening (f : SenseFields) (s : State) : HazardUnit :=
  { s.haz with loss := some (s.paramNat .senseTimeout), silent := false, lastSeq := some f.seq }

theorem State.takeSeq_frameTaken (f : SenseFields) (s : State) :
    (s.frameTaken .s 16).takeSeq f = (s.heard f).withHaz (s.listening f) := rfl

/-! ## Stage 2: the wheel drops (R104) -/

theorem State.takeDrops_quiet (h : s.haz.NoDropEdge f) :
    s.takeDrops f = s.withHaz { s.haz with dropL := f.dropL, dropR := f.dropR } := by
  obtain ⟨hleft, hright⟩ := h
  have hnone : s.haz.dropSide f = none := by
    cases hl : f.dropL <;> cases hr : f.dropR <;> simp_all [HazardUnit.dropSide]
  simp only [State.takeDrops, hnone]
  rfl

theorem HazardUnit.dropSide_none_iff (z : HazardUnit) : (z.dropSide f).isSome = false ↔ z.NoDropEdge f := by
  cases hl : f.dropL <;> cases hr : f.dropR <;> cases hzl : z.dropL <;> cases hzr : z.dropR <;>
    simp [HazardUnit.dropSide, HazardUnit.NoDropEdge, hl, hr, hzl, hzr]

/-! ## Stage 3: the cliff sensors (R98, R99) -/

/-- A sensor is judged by its record, the pose, the map and the parameters alone. -/
theorem State.threshold_congr (hpose : t.pose = s.pose) (hmap : t.map = s.map) (hparams : t.params = s.params)
    (k : Sensor) : t.threshold k = s.threshold k := by
  simp only [State.threshold, State.projected, State.param, hpose, hmap, hparams]

theorem State.levelMoved_congr {k : Sensor} (hsensor : t.haz.sensor k = s.haz.sensor k) (hpose : t.pose = s.pose)
    (hmap : t.map = s.map) (hparams : t.params = s.params) (f : SenseFields) : t.levelMoved f k = s.levelMoved f k := by
  simp only [← State.judge_eq, State.releaseLevel, State.threshold_congr hpose hmap hparams, State.paramNat, State.param,
    hsensor, hparams]

theorem State.noCliffEdge_congr {k : Sensor} (hsensor : t.haz.sensor k = s.haz.sensor k) (hpose : t.pose = s.pose)
    (hmap : t.map = s.map) (hparams : t.params = s.params) (f : SenseFields) : t.NoCliffEdge f k ↔ s.NoCliffEdge f k := by
  simp only [State.NoCliffEdge, State.threshold_congr hpose hmap hparams, hsensor]

/-- The part after a sensor's record has moved, but for its edge. -/
def State.moved (f : SenseFields) (s : State) (k : Sensor) : State := s.withHaz (s.haz.setSensor k (s.levelMoved f k))

/-- Whether a sensor takes an edge at a frame (R100). -/
theorem State.judge_edge_iff {k : Sensor} :
    ((s.haz.sensor k).judge (f.reading k) (s.threshold k) (s.releaseLevel k)).2 = true ↔ s.CliffEdge f k := by
  cases hlevel : (s.haz.sensor k).level <;> simp only [CliffSensor.judge, State.CliffEdge, hlevel] <;> split <;>
    simp_all

theorem State.takeCliff_quiet {k : Sensor} (h : s.NoCliffEdge f k) : s.takeCliff f k = (s.moved f k, false) := by
  have hedge := mt State.judge_edge_iff.mp h
  rw [State.takeCliff, if_neg hedge, State.judge_eq]
  rfl

theorem State.takeCliff_edge {k : Sensor} (h : s.CliffEdge f k) :
    s.takeCliff f k = ((s.moved f k).cliffEdge k, true) := by
  have hedge := State.judge_edge_iff.mpr h
  rw [State.takeCliff, if_pos hedge, State.judge_eq]
  rfl

/-- The sensors of a list, one after the other, and whether any took an edge. -/
def State.cliffsOf (f : SenseFields) : List Sensor → State → State × Bool
  | [], s => (s, false)
  | k :: ks, s => ((State.cliffsOf f ks (s.takeCliff f k).1).1, (s.takeCliff f k).2 || (State.cliffsOf f ks (s.takeCliff f k).1).2)

theorem State.takeCliffs_eq (f : SenseFields) (s : State) : s.takeCliffs f = s.cliffsOf f [.fl, .fr, .sl, .sr] := by
  simp only [State.takeCliffs, State.cliffsOf, Bool.or_false, Bool.or_assoc]

theorem State.cliffsOf_append (f : SenseFields) (ks js : List Sensor) : ∀ s : State, s.cliffsOf f (ks ++ js) =
    (((s.cliffsOf f ks).1.cliffsOf f js).1, (s.cliffsOf f ks).2 || ((s.cliffsOf f ks).1.cliffsOf f js).2) := by
  induction ks with
  | nil => exact fun s => rfl
  | cons k ks ih =>
    intro s
    simp only [List.cons_append, State.cliffsOf, ih, Bool.or_assoc]

/-- The hazard record after the sensors of a list have moved, judged by `s`. -/
def State.levels (f : SenseFields) (s : State) (ks : List Sensor) (z : HazardUnit) : HazardUnit :=
  ks.foldl (fun z k => z.setSensor k (s.levelMoved f k)) z

theorem HazardUnit.sensor_setSensor_other {k j : Sensor} (h : j ≠ k) (z : HazardUnit) (d : CliffSensor) :
    (z.setSensor k d).sensor j = z.sensor j := by
  cases k <;> cases j <;> simp_all [HazardUnit.setSensor, HazardUnit.sensor]

theorem HazardUnit.sensor_setSensor_same (k : Sensor) (z : HazardUnit) (d : CliffSensor) :
    (z.setSensor k d).sensor k = d := by
  cases k <;> rfl

/-- Sensors that take no edge move their records, each judged as the frame found the part. -/
theorem State.cliffsOf_quiet {ks : List Sensor} (hks : ks.Nodup) (f : SenseFields) : ∀ s : State,
    (∀ k ∈ ks, s.NoCliffEdge f k) → s.cliffsOf f ks = (s.withHaz (s.levels f ks s.haz), false) := by
  induction ks with
  | nil => exact fun s _ => rfl
  | cons k ks ih =>
    intro s hno
    obtain ⟨hk, hnodup⟩ := List.nodup_cons.mp hks
    have hother {j : Sensor} (hj : j ∈ ks) : (s.moved f k).haz.sensor j = s.haz.sensor j :=
      HazardUnit.sensor_setSensor_other (ne_of_mem_of_not_mem hj hk) _ _
    have hrest : ∀ j ∈ ks, (s.moved f k).NoCliffEdge f j := fun j hj =>
      (State.noCliffEdge_congr (hother hj) rfl rfl rfl f).mpr (hno j (List.mem_cons_of_mem _ hj))
    have hlevels : (s.moved f k).levels f ks (s.moved f k).haz = s.levels f (k :: ks) s.haz :=
      List.foldl_ext _ _ _ fun z j hj => by rw [State.levelMoved_congr (hother hj) rfl rfl rfl f]
    rw [State.cliffsOf, State.takeCliff_quiet (hno k List.mem_cons_self), ih hnodup _ hrest, hlevels]
    rfl

theorem State.takeCliffs_quiet (h : ∀ k, s.NoCliffEdge f k) : s.takeCliffs f = (s.withHaz { s.haz with
    fl := s.levelMoved f .fl, fr := s.levelMoved f .fr, sl := s.levelMoved f .sl, sr := s.levelMoved f .sr }, false) := by
  rw [State.takeCliffs_eq, State.cliffsOf_quiet (by decide) f s fun k _ => h k]
  rfl

/-! ## Stage 4: the bumpers (R106) -/

theorem State.takeBumps_quiet (h : s.haz.NoBumpEdge f) :
    s.takeBumps f = (s.withHaz { s.haz with bumpL := f.bumpL, bumpR := f.bumpR }, false) := by
  obtain ⟨hleft, hright⟩ := h
  have hno {edge was : Bool} (hedge : edge = true → was = true) : (edge && !was) = false := by
    cases edge <;> simp_all
  simp only [State.takeBumps, hno hleft, hno hright]
  rfl

/-! ## The stages together (R95) -/

theorem State.takeSense_frameTaken (f : SenseFields) (s : State) :
    let drops := ((s.heard f).withHaz (s.listening f)).takeDrops f
    let cliffs := drops.takeCliffs f
    let bumps := cliffs.1.takeBumps f
    (s.frameTaken .s 16).takeSense f =
      (bumps.1.takeDockInputs f).forward f ((s.haz.dropSide f).isSome || cliffs.2 || bumps.2) := rfl

/-- Stages 1 to 4 of a frame without an edge. -/
theorem State.levelsMoved_eq (f : SenseFields) (s : State) : s.levelsMoved f = (s.heard f).withHaz { s.listening f with
    fl := s.levelMoved f .fl, fr := s.levelMoved f .fr, sl := s.levelMoved f .sl, sr := s.levelMoved f .sr
    dropL := f.dropL, dropR := f.dropR, bumpL := f.bumpL, bumpR := f.bumpR } := by
  simp only [State.levelsMoved, State.heard, missingFrames]
  rfl

/-- Stages 1 to 3 of a frame without a drop edge or a cliff edge. -/
theorem State.takeCliffs_takeDrops_quiet (hdrop : s.haz.NoDropEdge f) (hcliff : ∀ k, s.NoCliffEdge f k) :
    (((s.heard f).withHaz (s.listening f)).takeDrops f).takeCliffs f = ((s.heard f).withHaz { s.listening f with
      fl := s.levelMoved f .fl, fr := s.levelMoved f .fr, sl := s.levelMoved f .sl, sr := s.levelMoved f .sr
      dropL := f.dropL, dropR := f.dropR }, false) := by
  let dropped := (s.heard f).withHaz { s.listening f with dropL := f.dropL, dropR := f.dropR }
  have hdropped : ((s.heard f).withHaz (s.listening f)).takeDrops f = dropped :=
    State.takeDrops_quiet (s := (s.heard f).withHaz (s.listening f)) hdrop
  have hsensor (k : Sensor) : dropped.haz.sensor k = s.haz.sensor k := by cases k <;> rfl
  have hlevel (k : Sensor) : dropped.levelMoved f k = s.levelMoved f k :=
    State.levelMoved_congr (hsensor k) rfl rfl rfl f
  have hquiet : ∀ k, dropped.NoCliffEdge f k := fun k =>
    (State.noCliffEdge_congr (hsensor k) rfl rfl rfl f).mpr (hcliff k)
  rw [hdropped, State.takeCliffs_quiet hquiet]
  simp only [hlevel]
  rfl

theorem State.takeSense_quiet (hdrop : s.haz.NoDropEdge f) (hbump : s.haz.NoBumpEdge f)
    (hcliff : ∀ k, s.NoCliffEdge f k) :
    (s.frameTaken .s 16).takeSense f = ((s.levelsMoved f).takeDockInputs f).forward f false := by
  have hcliffs := State.takeCliffs_takeDrops_quiet hdrop hcliff
  have hbumps := State.takeBumps_quiet (s := ((((s.heard f).withHaz (s.listening f)).takeDrops f).takeCliffs f).1)
    (f := f) (by rw [hcliffs]; exact hbump)
  rw [State.takeSense_frameTaken, hbumps, hcliffs, (HazardUnit.dropSide_none_iff _).mpr hdrop, State.levelsMoved_eq]
  rfl

/-! ## Forwarding (R172, R181, R189) -/

theorem State.forwardCount_eq (s : State) : s.forwardCount =
    (if s.paramNat .forwardDecim = 0 then s.rep.fwd
      else if s.paramNat .forwardDecim ≠ 0 ∧ s.paramNat .forwardDecim ≤ s.rep.fwd + 1 then 0 else s.rep.fwd + 1,
     decide (s.paramNat .forwardDecim ≠ 0 ∧ s.paramNat .forwardDecim ≤ s.rep.fwd + 1)) := by
  rw [State.forwardCount]
  by_cases hzero : s.paramNat .forwardDecim = 0
  · simp [hzero]
  · by_cases hdue : s.paramNat .forwardDecim ≤ s.rep.fwd + 1
    · simp [hzero, hdue]
    · simp [hzero, hdue]

/-! ## The map lookup (R1, R3) -/

/-- A coordinate on the map lies in a tile's column or row. -/
theorem coordinate_lt {n : Int} (h : -12800 ≤ n ∧ n ≤ 12799) : ((n + 12800) / 100).toNat < 256 := by omega

/-- A tile's address, without the reduction of its page. -/
theorem tileAddress_eq {tx ty : Nat} (hx : tx < 256) (hy : ty < 256) :
    tileAddress tx ty = 256 * (ty / 16 * 16 + tx / 16) + (ty % 16 * 16 + tx % 16) := by
  simp only [tileAddress, tilePage]
  omega

/-- Settles O54: a quiet frame's stages are its levels, forwarding is one count and one frame, and a point is looked up in
the tile it lies in. -/
theorem quietFrameMovesTheLevels : Obligations.QuietFrameMovesTheLevels := by
  unfold Obligations.QuietFrameMovesTheLevels
  refine ⟨?_, ?_, ?_, ?_⟩
  · intro s p hrun hlen f hdrop hbump hcliff
    rw [exec_sense hrun hlen, State.takeSense_quiet hdrop hbump hcliff]
  · intro s f flag n due t payload
    refine ⟨rfl, ?_⟩
    have ht : ({ s with rep := { s.rep with fwd := s.forwardCount.1 } } : State) = t := by
      rw [State.forwardCount_eq]
    have hdue : s.forwardCount.2 = decide due := by
      rw [State.forwardCount_eq]
    rw [State.forward, ht, hdue]
    simp only [Bool.or_eq_true, decide_eq_true_eq]
    have hframe : t.senseUp f = { kind := 0x83, payload := payload } := rfl
    rw [← hframe]
    exact if_congr Iff.rfl rfl rfl
  · intro s sensor i fwd lat px py
    cases sensor <;> exact ⟨rfl, rfl⟩
  · intro m x y tx ty place
    split
    next h =>
      have hpoint : pointTile x y = some (tx, ty) := if_pos h
      refine ⟨hpoint, ?_⟩
      have hplace : tileAddress tx ty = place := tileAddress_eq (coordinate_lt ⟨h.1, h.2.1⟩) (coordinate_lt h.2.2)
      rw [TileMap.classAt, hpoint, ← hplace]
      rfl
    next h =>
      have hpoint : pointTile x y = none := if_neg h
      exact ⟨hpoint, by rw [TileMap.classAt, hpoint]⟩

end

end Sys2Proof.Machine
end

-- ==== Proofs: the dock inputs of a frame ====
section
/-! The contact outside an approach, the substates within one, and what a change of travel state stops (R57, R59, R62, R63, R132, R133, R141 to R144). -/

namespace Sys2Proof.Machine

section

variable {s : State}

theorem State.takeDockInputs_elsewhere (f : SenseFields) (h : s.trv.state ≠ .approach) :
    s.takeDockInputs f = (s.seen f).contactRule s.dock.contact f.contact := if_neg h

theorem DockUnit.dark_iff (d : DockUnit) : d.dark = true ↔ d.codeL = .none_ ∧ d.codeR = .none_ := by
  simp [DockUnit.dark]

theorem DockUnit.bothNear_iff (d : DockUnit) : d.bothNear = true ↔ d.codeL = .near ∧ d.codeR = .near := by
  simp [DockUnit.bothNear]

/-- A contact that closes in IDLE docks the robot (R133). -/
theorem State.contactRule_closes (h : s.trv.state = .idle) : s.contactRule false true = s.dockNow := by
  simp only [State.contactRule, h]

/-- A contact that opens in DOCKED is lost (R133). -/
theorem State.contactRule_opens (h : s.trv.state = .docked) : s.contactRule true false =
    ((s.enter .idle).setQuality (if s.pose.quality = .good then .degraded else s.pose.quality)).raise .contactLost := by
  rw [← Quality.doubted_ok]
  simp only [State.contactRule, h]
  rfl

/-- Any other contact is recorded alone (R133). -/
theorem State.contactRule_stands {before after : Bool}
    (hclose : ¬(s.trv.state = .idle ∧ before = false ∧ after = true))
    (hopen : ¬(s.trv.state = .docked ∧ before = true ∧ after = false)) : s.contactRule before after = s := by
  rcases State.contactRule_cases before after s with ⟨h1, h2, h3, -⟩ | ⟨h1, h2, h3, -⟩ | ⟨-, -, h⟩
  · exact absurd ⟨h1, h2, h3⟩ hclose
  · exact absurd ⟨h1, h2, h3⟩ hopen
  · exact h

/-- What stops on a change of travel state, field by field (R57, R59, R62, R63, R115, R131). -/
theorem State.enter_eq (u : Travel) (s : State) : s.enter u = { s with
    trv := { s.trv with
      state := u
      yield := if u = .cruise then s.trv.yield else false
      grace := if u = .limp then s.trv.grace else none
      backoff := if u = .backoff then s.trv.backoff else none }
    seg := { s.seg with cadence := if u = .cruise then s.seg.cadence else none }
    dock := if u = .approach then s.dock
      else { s.dock with sub := .none_, approach := none, beamLost := none, settle := none }
    drv := { s.drv with period := if s.trv.state = .docked ∧ u ≠ .docked
      then s.drv.period.map (fun i => { i with length := 10 }) else s.drv.period } } := by
  have hyield : (s.trv.yield && decide (u = .cruise)) = if u = .cruise then s.trv.yield else false := by
    by_cases hu : u = .cruise <;> simp [hu]
  rw [State.enter, hyield]
  by_cases h : s.trv.state = .docked ∧ u ≠ .docked
  · rw [if_pos h, if_pos h]
    rfl
  · rw [if_neg h, if_neg h]

/-- The event of a change of substate, in the order the statement asks for it. -/
theorem State.raiseAll_eventsTo (before after : Substate) (u : State) : u.raiseAll (before.eventsTo after) =
    if after = before ∨ after = .settle then u
    else if after = .align then u.raise .beamFound else u.raise .dockCreep := by
  rw [Substate.eventsTo]
  split
  · rfl
  · split <;> rfl

/-- Settles O56: the contact rule outside an approach, the steering within one, and the fields of an entry. -/
theorem dockInputsDockAndSteer : Obligations.DockInputsDockAndSteer := by
  unfold Obligations.DockInputsDockAndSteer
  refine ⟨?_, fun s u => State.enter_eq u s⟩
  intro s f t seen dark near
  have helsewhere (h : s.trv.state ≠ .approach) : t = seen.contactRule s.dock.contact f.contact :=
    State.takeDockInputs_elsewhere f h
  refine ⟨fun hidle hbefore hafter => ?_, fun hdocked hbefore hafter => ?_, fun happroach hclose hopen => ?_,
    fun happroach => ?_⟩
  · rw [helsewhere (by rw [hidle]; decide), hbefore, hafter]
    exact State.contactRule_closes (s := seen) hidle
  · rw [helsewhere (by rw [hdocked]; decide), hbefore, hafter]
    exact State.contactRule_opens (s := seen) hdocked
  · rw [helsewhere happroach]
    exact State.contactRule_stands (s := seen) hclose hopen
  · intro sub settle beamLost u
    have hdark : (s.seen f).dock.dark = decide dark := Bool.eq_iff_iff.mpr (by
      rw [DockUnit.dark_iff, decide_eq_true_eq]
      exact Iff.rfl)
    have hnear : (s.seen f).dock.bothNear = decide near := Bool.eq_iff_iff.mpr (by
      rw [DockUnit.bothNear_iff, decide_eq_true_eq]
      exact Iff.rfl)
    have hsub : s.dock.sub.after f.contact (s.seen f).dock.dark (s.seen f).dock.bothNear = sub := by
      simp only [sub, hdark, hnear]
      cases s.dock.sub <;> cases f.contact <;> simp [Substate.after]
    have hsettle : s.settleAfter f.contact = settle := by
      simp only [settle, State.settleAfter]
      cases s.dock.sub <;> cases f.contact <;> simp
    have hbeam : (if (sub = .align ∨ sub = .creep) ∧ (s.seen f).dock.dark = true
        then some (s.dock.beamLost.getD (s.paramNat .beamLost)) else none) = beamLost := by
      simp only [beamLost, hdark, decide_eq_true_eq]
      cases s.dock.beamLost <;> rfl
    have hsteered : s.steered f = u := by
      simp only [State.steered, hsub, hsettle, hbeam]
      rfl
    have htaken : t = (s.steered f).raiseAll (s.dock.sub.eventsTo (s.steered f).dock.sub) :=
      State.takeDockInputs_approach f happroach
    rw [htaken, hsteered]
    exact State.raiseAll_eventsTo s.dock.sub sub u

end

end Sys2Proof.Machine
end

-- ==== Proofs: what the stages of a frame leave ====
section
/-! The latches only rise through a frame, the hazard record moves by its own stages alone, and a robot that is halted
stays as it is (R95, R100 to R107, R133, R168). -/

namespace Sys2Proof.Machine

section

variable {s t u : State} {f : SenseFields}

/-! ## The latches -/

/-- Every latch set stays set. -/
def Latched (s t : State) : Prop := ∀ i, s.rep.latches.getLsbD i = true → t.rep.latches.getLsbD i = true

theorem Latched.of_eq (h : t.rep.latches = s.rep.latches) : Latched s t := fun i hi => by rwa [h]

theorem Latched.trans (h : Latched s t) (k : Latched t u) : Latched s u := fun i hi => k i (h i hi)

theorem Latched.setLatch (l : Latch) (s : State) : Latched s (s.setLatch l) := fun i hi => by
  simp [State.setLatch, Latch.set, hi]

theorem State.setLatch_self (l : Latch) (s : State) : (s.setLatch l).rep.latches.getLsbD l.position = true := by
  cases l <;> simp [State.setLatch, Latch.set, Latch.position]

/-! ## A mark (R102, R151) -/

/-- Only the map, the store and the counters have moved. -/
def OnlyMarks (s t : State) : Prop :=
  t = { s with map := t.map, store := t.store, rep := { s.rep with counters := t.rep.counters } }

theorem State.markTile_onlyMarks (tx ty : Nat) (s : State) : OnlyMarks s (s.markTile tx ty) := by
  rw [State.markTile]
  split
  · rcases State.startSave_cases (s := _) with ⟨h, -⟩ | ⟨p, rest, -, -, -, h⟩ <;> rw [h] <;> rfl
  · rfl

theorem State.markPoint_onlyMarks (p : Int × Int) (s : State) : OnlyMarks s (s.markPoint p) := by
  rw [State.markPoint]
  split
  · split
    · exact State.markTile_onlyMarks _ _ s
    · rfl
  · rfl

/-! ## What the edges leave (R100, R101, R105, R107) -/

theorem State.losePose_frame (s : State) : s.losePose.haz = s.haz ∧ s.losePose.params = s.params ∧ s.losePose.map = s.map ∧
    s.losePose.trv = s.trv ∧ s.losePose.seg = s.seg ∧ s.losePose.port.dTx = s.port.dTx ∧ s.losePose.dock = s.dock ∧
    s.losePose.rep.latches = s.rep.latches ∧ s.losePose.pose = { s.pose with quality := .lost } := by
  rw [State.losePose]
  split
  next h => simp [← h]
  next h => simp [State.setQuality]

/-- The state after a cliff edge's latch, event and mark, before its reaction. -/
def State.cliffMarked (k : Sensor) (s : State) : State :=
  ((s.setLatch k.latch).raise (.cliff k)).markPoint (s.projected k)

theorem State.cliffEdge_eq (k : Sensor) (s : State) : s.cliffEdge k =
    if s.trv.state.moving = true then (s.cliffMarked k).halt .cliff else s.cliffMarked k := by
  have hmarks := State.markPoint_onlyMarks (s.projected k) ((s.setLatch k.latch).raise (.cliff k))
  have htrv : (s.cliffMarked k).trv = s.trv := (congrArg State.trv hmarks).trans (by simp)
  rw [← htrv]
  rfl

theorem State.cliffMarked_frame (k : Sensor) (s : State) : (s.cliffMarked k).haz = s.haz ∧ (s.cliffMarked k).pose = s.pose ∧
    (s.cliffMarked k).params = s.params ∧ (s.cliffMarked k).trv = s.trv ∧ (s.cliffMarked k).seg = s.seg ∧
    (s.cliffMarked k).port.dTx = s.port.dTx ∧ (s.cliffMarked k).dock = s.dock ∧
    (s.cliffMarked k).rep.latches = (s.setLatch k.latch).rep.latches := by
  have hmarks := State.markPoint_onlyMarks (s.projected k) ((s.setLatch k.latch).raise (.cliff k))
  rw [State.cliffMarked, hmarks]
  simp

/-- A cliff edge moves no hazard record, no pose and no parameter, and sets its latch. -/
theorem State.cliffEdge_frame (k : Sensor) (s : State) : (s.cliffEdge k).haz = s.haz ∧ (s.cliffEdge k).pose = s.pose ∧
    (s.cliffEdge k).params = s.params ∧ (s.cliffEdge k).map = (s.cliffMarked k).map ∧
    (s.cliffEdge k).store = (s.cliffMarked k).store ∧ (s.cliffEdge k).rep.latches = (s.setLatch k.latch).rep.latches := by
  obtain ⟨hhaz, hpose, hparams, -, -, -, -, hlatches⟩ := State.cliffMarked_frame k s
  rw [State.cliffEdge_eq]
  split
  · obtain ⟨-, -, -, -, -, -, -, -, -, hmap, hpose', -, hhaz', hstore, hparams', -, hlatches', -⟩ :=
      State.halt_effect .cliff (s.cliffMarked k)
    exact ⟨hhaz'.trans hhaz, hpose'.trans hpose, hparams'.trans hparams, hmap, hstore, hlatches'.trans hlatches⟩
  · exact ⟨hhaz, hpose, hparams, rfl, rfl, hlatches⟩

/-- A sensor's stage moves its own record, and no pose and no parameter. -/
theorem State.takeCliff_frame (f : SenseFields) (k : Sensor) (s : State) :
    (s.takeCliff f k).1.haz = s.haz.setSensor k (s.levelMoved f k) ∧ (s.takeCliff f k).1.pose = s.pose ∧
    (s.takeCliff f k).1.params = s.params ∧ Latched s (s.takeCliff f k).1 := by
  by_cases h : s.CliffEdge f k
  · obtain ⟨hhaz, hpose, hparams, -, -, hlatches⟩ := State.cliffEdge_frame k (s.moved f k)
    rw [State.takeCliff_edge h]
    refine ⟨hhaz, hpose, hparams, fun i hi => ?_⟩
    rw [hlatches]
    exact Latched.setLatch k.latch s i hi
  · rw [State.takeCliff_quiet h]
    exact ⟨rfl, rfl, rfl, .of_eq rfl⟩

/-! ## A robot that does not move -/

/-- The motion, the pose and the D-link queue stand. -/
structure Steady (s t : State) : Prop where
  trv : t.trv = s.trv
  seg : t.seg = s.seg
  dTx : t.port.dTx = s.port.dTx
  pose : t.pose = s.pose
  sub : t.dock.sub = s.dock.sub

theorem Steady.refl (s : State) : Steady s s := ⟨rfl, rfl, rfl, rfl, rfl⟩

theorem Steady.trans (h : Steady s t) (k : Steady t u) : Steady s u :=
  ⟨k.trv.trans h.trv, k.seg.trans h.seg, k.dTx.trans h.dTx, k.pose.trans h.pose, k.sub.trans h.sub⟩

theorem State.takeCliff_steady (f : SenseFields) (k : Sensor) (h : ¬s.trv.state.moving = true) :
    Steady s (s.takeCliff f k).1 := by
  by_cases hedge : s.CliffEdge f k
  · obtain ⟨-, hpose, -, htrv, hseg, hdTx, hdock, -⟩ := State.cliffMarked_frame k (s.moved f k)
    have hmarked : (s.takeCliff f k).1 = (s.moved f k).cliffMarked k := by
      rw [State.takeCliff_edge hedge, State.cliffEdge_eq]
      exact if_neg h
    rw [hmarked]
    exact ⟨htrv, hseg, hdTx, hpose, congrArg DockUnit.sub hdock⟩
  · rw [State.takeCliff_quiet hedge]
    exact ⟨rfl, rfl, rfl, rfl, rfl⟩

theorem State.cliffsOf_steady (f : SenseFields) : ∀ (ks : List Sensor) (s : State), ¬s.trv.state.moving = true →
    Steady s (s.cliffsOf f ks).1
  | [], s, _ => .refl s
  | k :: ks, s, h => by
    have hfirst := State.takeCliff_steady f k h
    exact hfirst.trans (State.cliffsOf_steady f ks _ (by rw [hfirst.trv]; exact h))

/-- The sensors of a list move no other record, and no pose and no parameter. -/
theorem State.cliffsOf_frame (f : SenseFields) : ∀ (ks : List Sensor) (s : State),
    (s.cliffsOf f ks).1.pose = s.pose ∧ (s.cliffsOf f ks).1.params = s.params ∧ Latched s (s.cliffsOf f ks).1 ∧
    (∀ j, j ∉ ks → (s.cliffsOf f ks).1.haz.sensor j = s.haz.sensor j) ∧
    (s.cliffsOf f ks).1.haz.bumpL = s.haz.bumpL ∧ (s.cliffsOf f ks).1.haz.bumpR = s.haz.bumpR
  | [], s => ⟨rfl, rfl, .of_eq rfl, fun _ _ => rfl, rfl, rfl⟩
  | k :: ks, s => by
    obtain ⟨hhaz, hpose, hparams, hlatched⟩ := State.takeCliff_frame f k s
    obtain ⟨hpose', hparams', hlatched', hsensor', hleft, hright⟩ := State.cliffsOf_frame f ks (s.takeCliff f k).1
    have hbumps : (s.takeCliff f k).1.haz.bumpL = s.haz.bumpL ∧ (s.takeCliff f k).1.haz.bumpR = s.haz.bumpR := by
      rw [hhaz]
      cases k <;> exact ⟨rfl, rfl⟩
    refine ⟨hpose'.trans hpose, hparams'.trans hparams, hlatched.trans hlatched', fun j hj => ?_,
      hleft.trans hbumps.1, hright.trans hbumps.2⟩
    obtain ⟨hne, hnot⟩ := not_or.mp (mt List.mem_cons.mpr hj)
    refine (hsensor' j hnot).trans ?_
    rw [hhaz]
    exact HazardUnit.sensor_setSensor_other hne _ _

/-! ## The bumpers -/

/-- The edge of a switch (R104, R106). -/
theorem edge_iff (now was : Bool) : (now && !was) = decide (now = true ∧ was = false) := by
  cases now <;> cases was <;> rfl

/-- The bump edges of a frame, left before right. -/
def State.bumped (left right : Bool) (s : State) : State := (s.bumpEdge left .bumpL 0).bumpEdge right .bumpR 1

theorem State.takeBumps_eq (f : SenseFields) (s : State) :
    let left := f.bumpL && !s.haz.bumpL
    let right := f.bumpR && !s.haz.bumpR
    let t := (s.withHaz { s.haz with bumpL := f.bumpL, bumpR := f.bumpR }).bumped left right
    s.takeBumps f = (if (left || right) = true ∧ t.paramNat .bumpReact = 1 then t.bumpReaction else t, left || right) := by
  simp only [State.takeBumps, Bool.and_eq_true, decide_eq_true_eq]
  rfl

theorem State.bumpEdge_frame (edge : Bool) (l : Latch) (side : Nat) (s : State) :
    (s.bumpEdge edge l side).haz = s.haz ∧ (s.bumpEdge edge l side).map = s.map ∧ (s.bumpEdge edge l side).store = s.store ∧
    (s.bumpEdge edge l side).pose = s.pose ∧ (s.bumpEdge edge l side).trv = s.trv ∧ (s.bumpEdge edge l side).seg = s.seg ∧
    (s.bumpEdge edge l side).port.dTx = s.port.dTx ∧ (s.bumpEdge edge l side).dock = s.dock ∧
    (s.bumpEdge edge l side).params = s.params ∧ Latched s (s.bumpEdge edge l side) ∧
    (edge = true → (s.bumpEdge edge l side).rep.latches.getLsbD l.position = true) := by
  cases edge with
  | false => exact ⟨rfl, rfl, rfl, rfl, rfl, rfl, rfl, rfl, rfl, .of_eq rfl, fun h => nomatch h⟩
  | true =>
    have hself := State.setLatch_self l s
    have hlatched := Latched.setLatch l s
    simp only [State.bumpEdge, if_true]
    refine ⟨?_, ?_, ?_, ?_, ?_, ?_, ?_, ?_, ?_, hlatched.trans (.of_eq (by simp)), fun _ => by simpa using hself⟩ <;> simp

theorem State.bumpReaction_frame (s : State) : s.bumpReaction.haz = s.haz ∧ s.bumpReaction.map = s.map ∧
    s.bumpReaction.store = s.store ∧ s.bumpReaction.rep.latches = s.rep.latches := by
  have hplayed : (((s.abortWhole .bump).startBackoff .bump).raiseDockFailed s .bump).haz = s.haz ∧
      (((s.abortWhole .bump).startBackoff .bump).raiseDockFailed s .bump).map = s.map ∧
      (((s.abortWhole .bump).startBackoff .bump).raiseDockFailed s .bump).store = s.store ∧
      (((s.abortWhole .bump).startBackoff .bump).raiseDockFailed s .bump).rep.latches = s.rep.latches := by
    simp only [State.raiseDockFailed, State.abortWhole_eq, State.startBackoff]
    split <;> simp
  rw [State.bumpReaction]
  split
  · exact hplayed
  · exact hplayed
  · split
    · simp only [State.raiseDockFailed, State.startBackoff]
      split <;> simp
    · exact ⟨rfl, rfl, rfl, rfl⟩
  · exact ⟨rfl, rfl, rfl, rfl⟩

theorem State.bumped_frame (left right : Bool) (s : State) :
    (s.bumped left right).haz = s.haz ∧ (s.bumped left right).map = s.map ∧ (s.bumped left right).store = s.store ∧
    Steady s (s.bumped left right) ∧ (s.bumped left right).dock = s.dock ∧ (s.bumped left right).params = s.params ∧
    Latched s (s.bumped left right) ∧
    (left = true → (s.bumped left right).rep.latches.getLsbD 4 = true) ∧
    (right = true → (s.bumped left right).rep.latches.getLsbD 5 = true) := by
  obtain ⟨hhaz, hmap, hstore, hpose, htrv, hseg, hdTx, hdock, hparams, hlatched, hset⟩ :=
    State.bumpEdge_frame left .bumpL 0 s
  obtain ⟨hhaz', hmap', hstore', hpose', htrv', hseg', hdTx', hdock', hparams', hlatched', hset'⟩ :=
    State.bumpEdge_frame right .bumpR 1 (s.bumpEdge left .bumpL 0)
  have hsteady : Steady s (s.bumpEdge left .bumpL 0) := ⟨htrv, hseg, hdTx, hpose, congrArg DockUnit.sub hdock⟩
  exact ⟨hhaz'.trans hhaz, hmap'.trans hmap, hstore'.trans hstore,
    hsteady.trans ⟨htrv', hseg', hdTx', hpose', congrArg DockUnit.sub hdock'⟩, hdock'.trans hdock,
    hparams'.trans hparams, hlatched.trans hlatched', fun h => hlatched' _ (hset h), hset'⟩

/-- The bumpers' stage moves no sensor's record and no tile, and sets the latch of each edge. -/
theorem State.takeBumps_frame (f : SenseFields) (s : State) :
    (∀ k, (s.takeBumps f).1.haz.sensor k = s.haz.sensor k) ∧ (s.takeBumps f).1.map = s.map ∧
    (s.takeBumps f).1.store = s.store ∧ Latched s (s.takeBumps f).1 ∧
    ((f.bumpL && !s.haz.bumpL) = true → (s.takeBumps f).1.rep.latches.getLsbD 4 = true) ∧
    ((f.bumpR && !s.haz.bumpR) = true → (s.takeBumps f).1.rep.latches.getLsbD 5 = true) := by
  obtain ⟨hhaz, hmap, hstore, -, -, -, hlatched, hleft, hright⟩ := State.bumped_frame (f.bumpL && !s.haz.bumpL)
    (f.bumpR && !s.haz.bumpR) (s.withHaz { s.haz with bumpL := f.bumpL, bumpR := f.bumpR })
  rw [State.takeBumps_eq]
  dsimp only
  split
  · obtain ⟨hhaz', hmap', hstore', hlatches'⟩ := State.bumpReaction_frame
      ((s.withHaz { s.haz with bumpL := f.bumpL, bumpR := f.bumpR }).bumped (f.bumpL && !s.haz.bumpL)
        (f.bumpR && !s.haz.bumpR))
    rw [hhaz', hmap', hstore', hlatches', hhaz]
    exact ⟨fun k => by cases k <;> rfl, hmap, hstore, hlatched.trans (.of_eq hlatches'), hleft, hright⟩
  · rw [hhaz]
    exact ⟨fun k => by cases k <;> rfl, hmap, hstore, hlatched, hleft, hright⟩

theorem State.bumpReaction_elsewhere (hc : s.trv.state ≠ .cruise) (hl : s.trv.state ≠ .limp)
    (ha : s.trv.state ≠ .approach) : s.bumpReaction = s := by
  rw [State.bumpReaction]
  split
  next h => exact absurd h hc
  next h => exact absurd h hl
  next h => exact absurd h ha
  next => rfl

/-! ## A robot that is halted -/

/-- HALTED, FAULT and LOCKED: no edge moves the robot on. -/
abbrev Travel.Stopped (v : Travel) : Prop := v = .halted ∨ v = .fault ∨ v = .locked

theorem State.takeBumps_steady (f : SenseFields) (h : s.trv.state.Stopped) : Steady s (s.takeBumps f).1 := by
  obtain ⟨-, -, -, hsteady, -⟩ := State.bumped_frame (f.bumpL && !s.haz.bumpL)
    (f.bumpR && !s.haz.bumpR) (s.withHaz { s.haz with bumpL := f.bumpL, bumpR := f.bumpR })
  have hbumped : Steady s ((s.withHaz { s.haz with bumpL := f.bumpL, bumpR := f.bumpR }).bumped (f.bumpL && !s.haz.bumpL)
      (f.bumpR && !s.haz.bumpR)) := ⟨hsteady.trv, hsteady.seg, hsteady.dTx, hsteady.pose, hsteady.sub⟩
  have hne {v : Travel} (hv : ¬v.Stopped) : ((s.withHaz { s.haz with bumpL := f.bumpL, bumpR := f.bumpR }).bumped
      (f.bumpL && !s.haz.bumpL) (f.bumpR && !s.haz.bumpR)).trv.state ≠ v := by
    rw [hbumped.trv]
    rintro rfl
    exact hv h
  rw [State.takeBumps_eq]
  dsimp only
  rw [State.bumpReaction_elsewhere (hne (by decide)) (hne (by decide)) (hne (by decide)), ite_self]
  exact hbumped

theorem State.takeDockInputs_stopped (f : SenseFields) (h : s.trv.state.Stopped) : s.takeDockInputs f = s.seen f := by
  have hne {v : Travel} (hv : ¬v.Stopped) : s.trv.state ≠ v := by
    rintro rfl
    exact hv h
  rw [State.takeDockInputs_elsewhere f (hne (by decide))]
  exact State.contactRule_stands (s := s.seen f) (fun hc => hne (by decide) hc.1) (fun hc => hne (by decide) hc.1)

/-- The dock inputs move no hazard record, no tile and no latch. -/
theorem State.takeDockInputs_frame (f : SenseFields) (s : State) : (s.takeDockInputs f).haz = s.haz ∧
    (s.takeDockInputs f).map = s.map ∧ (s.takeDockInputs f).store = s.store ∧
    (s.takeDockInputs f).rep.latches = s.rep.latches := by
  by_cases h : s.trv.state = .approach
  · rw [State.takeDockInputs_approach f h]
    simp [State.steered]
  · rw [State.takeDockInputs_elsewhere f h]
    rcases State.contactRule_cases s.dock.contact f.contact (s.seen f) with ⟨-, -, -, he⟩ | ⟨-, -, -, he⟩ | ⟨-, -, he⟩
    · rw [he]
      simp [State.dockNow, State.setDockPose, State.seen]
    · rw [he]
      simp [State.setQuality, State.seen]
    · rw [he]
      exact ⟨rfl, rfl, rfl, rfl⟩

/-- Forwarding moves the output queue, its count and its counter alone. -/
theorem State.forward_leaves (f : SenseFields) (flag : Bool) (s : State) : (s.forward f flag).haz = s.haz ∧
    (s.forward f flag).map = s.map ∧ (s.forward f flag).store = s.store ∧
    (s.forward f flag).rep.latches = s.rep.latches ∧ Steady s (s.forward f flag) := by
  rw [State.forward_frame f flag s]
  exact ⟨rfl, rfl, rfl, rfl, ⟨rfl, rfl, rfl, rfl, rfl⟩⟩

end

end Sys2Proof.Machine
end

-- ==== Proofs: the bump edges of a frame ====
section
/-! A bump edge latches, and backs a moving robot off (R63, R95, R106, R107, R136, R144). -/

namespace Sys2Proof.Machine

section

variable {s : State} {f : SenseFields}

theorem State.takeDrops_haz (f : SenseFields) (s : State) :
    (s.takeDrops f).haz = { s.haz with dropL := f.dropL, dropR := f.dropR } := by
  rw [State.takeDrops]
  split
  next side h =>
    rw [State.wheelDropEdge, State.wheelDropReaction]
    obtain ⟨hhaz, -⟩ := State.losePose_frame
      ((({ s with haz := { s.haz with dropL := f.dropL, dropR := f.dropR } } : State).setLatch .wheelDrop).raise (.wheelDrop side))
    split
    · obtain ⟨-, -, -, -, -, -, -, -, -, -, -, -, hhaz', -⟩ := State.halt_effect .wheelDrop
        ((({ s with haz := { s.haz with dropL := f.dropL, dropR := f.dropR } } : State).setLatch .wheelDrop).raise
          (.wheelDrop side)).losePose
      rw [hhaz', hhaz]
      simp
    · rw [hhaz]
      simp
  next => rfl

/-- The part as it comes to the bumpers' stage. -/
def State.atBumpers (f : SenseFields) (s : State) : State :=
  ((((s.heard f).withHaz (s.listening f)).takeDrops f).takeCliffs f).1

theorem State.atBumpers_bumps (f : SenseFields) (s : State) :
    (s.atBumpers f).haz.bumpL = s.haz.bumpL ∧ (s.atBumpers f).haz.bumpR = s.haz.bumpR := by
  obtain ⟨-, -, -, -, hleft, hright⟩ := State.cliffsOf_frame f [.fl, .fr, .sl, .sr]
    (((s.heard f).withHaz (s.listening f)).takeDrops f)
  rw [State.atBumpers, State.takeCliffs_eq, hleft, hright, State.takeDrops_haz]
  exact ⟨rfl, rfl⟩

theorem State.takeSense_latches (f : SenseFields) (s : State) :
    ((s.frameTaken .s 16).takeSense f).rep.latches = ((s.atBumpers f).takeBumps f).1.rep.latches := by
  obtain ⟨-, -, -, hdock⟩ := State.takeDockInputs_frame f ((s.atBumpers f).takeBumps f).1
  obtain ⟨-, -, -, hforward, -⟩ := State.forward_leaves f ((s.haz.dropSide f).isSome ||
    ((((s.heard f).withHaz (s.listening f)).takeDrops f).takeCliffs f).2 || ((s.atBumpers f).takeBumps f).2)
    (((s.atBumpers f).takeBumps f).1.takeDockInputs f)
  exact hforward.trans hdock

/-- A bump edge sets its latch, whatever else its frame brings. -/
theorem State.takeSense_bumpLatch (f : SenseFields) (s : State) :
    (f.bumpL = true ∧ s.haz.bumpL = false → ((s.frameTaken .s 16).takeSense f).rep.latches.getLsbD 4 = true) ∧
    (f.bumpR = true ∧ s.haz.bumpR = false → ((s.frameTaken .s 16).takeSense f).rep.latches.getLsbD 5 = true) := by
  obtain ⟨hleft, hright⟩ := s.atBumpers_bumps f
  obtain ⟨-, -, -, -, hsetL, hsetR⟩ := State.takeBumps_frame f (s.atBumpers f)
  rw [hleft, edge_iff, decide_eq_true_eq] at hsetL
  rw [hright, edge_iff, decide_eq_true_eq] at hsetR
  rw [State.takeSense_latches]
  exact ⟨hsetL, hsetR⟩

/-! ## A frame whose only edges are bumps -/

/-- A frame without a drop edge or a cliff edge takes its bump edges on the levels it moved. -/
theorem State.takeSense_bumps (hdrop : s.haz.NoDropEdge f) (hcliff : ∀ k, s.NoCliffEdge f k) :
    let left := f.bumpL && !s.haz.bumpL
    let right := f.bumpR && !s.haz.bumpR
    let t := (s.levelsMoved f).bumped left right
    (s.frameTaken .s 16).takeSense f =
      ((if (left || right) = true ∧ t.paramNat .bumpReact = 1 then t.bumpReaction else t).takeDockInputs f).forward f
        (left || right) := by
  rw [State.takeSense_frameTaken, State.takeCliffs_takeDrops_quiet hdrop hcliff,
    (HazardUnit.dropSide_none_iff _).mpr hdrop, State.levelsMoved_eq]
  dsimp only
  rw [State.takeBumps_eq]
  rfl

/-- The back-off of a bump, entered from `s` (R63, R107). -/
theorem State.startBackoff_bump (s : State) : s.startBackoff .bump = { s.enter .backoff with
    trv := { (s.enter .backoff).trv with backoff := some ⟨.bump, s.paramNat .backoffDist, 0, 0⟩ } } := rfl

/-- The bump reaction by travel state (R107). -/
theorem State.bumpReaction_eq (s : State) : s.bumpReaction =
    if s.trv.state = .cruise ∨ s.trv.state = .limp then
      if s.trv.yield then ((s.abortWhole .bump).startBackoff .bump).raise (.dockFailed .bump)
      else (s.abortWhole .bump).startBackoff .bump
    else if s.trv.state = .approach ∧ (s.dock.sub = .seek ∨ s.dock.sub = .align) then
      (s.startBackoff .bump).raise (.dockFailed .bump)
    else s := by
  cases hstate : s.trv.state <;> simp [State.bumpReaction, State.raiseDockFailed, hstate]

/-- Settles O39: the latch by the stages that follow a bump edge, and a frame of bump edges alone by its reaction. -/
theorem bumpEdgesStartABackoff : Obligations.BumpEdgesStartABackoff := by
  unfold Obligations.BumpEdgesStartABackoff
  intro s p hrun hlen f left right
  refine ⟨fun _ => ⟨_, exec_sense hrun hlen, (State.takeSense_bumpLatch f s).1, (State.takeSense_bumpLatch f s).2⟩, ?_⟩
  intro hedge hdrop hcliff t t1 t2 backed u
  have hbumped : (s.levelsMoved f).bumped (decide left) (decide right) = t2 := by
    simp only [State.bumped, State.bumpEdge, decide_eq_true_eq]
    rfl
  have hflag : (decide left || decide right) = true := by simpa using hedge
  have hreaction : (if (decide left || decide right) = true ∧ t2.paramNat .bumpReact = 1 then t2.bumpReaction else t2) = u := by
    obtain ⟨-, -, -, hsteady, hdock, hparams, -⟩ := State.bumped_frame (decide left) (decide right) (s.levelsMoved f)
    rw [hbumped] at hsteady hdock hparams
    have htrv : t2.trv = s.trv := hsteady.trv
    have hseg : t2.seg = s.seg := hsteady.seg
    have hdock' : t2.dock = s.dock := hdock
    have hparams' : t2.params = s.params := hparams
    have hbacked {w : State} (hw : w.params = s.params) : w.startBackoff .bump = backed w := by
      rw [State.startBackoff_bump, State.paramNat, State.param, hw]
      rfl
    have hreact : t2.paramNat .bumpReact = s.paramNat .bumpReact := by
      rw [State.paramNat, State.param, hparams']
      rfl
    have hplayed : (t2.abortWhole .bump).startBackoff .bump = backed
        (({ t2 with seg := { s.seg with queue := [] } } : State).raiseAll (abortEvents s.seg.queue .bump)) := by
      rw [State.abortWhole_eq, hseg, hbacked (by simpa using hparams')]
    rw [hreact, State.bumpReaction_eq, htrv, hdock', hplayed, hbacked hparams']
    by_cases hon : s.paramNat .bumpReact = 1
    · exact (if_pos ⟨hflag, hon⟩).trans (if_neg (not_not.mpr hon)).symm
    · exact (if_neg fun h => hon h.2).trans (if_pos hon).symm
  rw [exec_sense hrun hlen, State.takeSense_bumps hdrop hcliff, edge_iff, edge_iff, hbumped, hreaction, hflag]

end

end Sys2Proof.Machine
end

-- ==== Proofs: the first cliff edge and the wheel drops ====
section
/-! What the edges of a frame leave whatever else the frame brings: the latch, the halt, the lost pose and the mark
(R95, R96, R97, R100 to R105). -/

namespace Sys2Proof.Machine

section

variable {s t u : State} {f : SenseFields}

/-! ## A marked tile (R102, R151, R153) -/

/-- The page of a marked tile is dirty, or being saved. -/
def State.Unsaved (p : Page) (s : State) : Prop :=
  s.map.dirty[p] = true ∨ ∃ c, s.store.current = some c ∧ c.page = p

theorem State.Unsaved.startSave {p : Page} (h : s.Unsaved p) : s.startSave.Unsaved p := by
  rcases State.startSave_cases s with ⟨he, -⟩ | ⟨q, rest, -, hcurrent, -, he⟩
  · rwa [he]
  · rw [he]
    by_cases hq : q = p
    · exact .inr ⟨_, rfl, hq⟩
    · rcases h with h | ⟨c, hc, -⟩
      · refine .inl ?_
        have hne : q.val ≠ p.val := fun h => hq (Fin.ext h)
        simpa [Vector.getElem_set, hne] using h
      · rw [hcurrent] at hc
        cases hc

theorem State.Unsaved.markTile {p : Page} (tx ty : Nat) (h : tilePage tx ty = p ∨ s.Unsaved p) :
    (s.markTile tx ty).Unsaved p := by
  have hwritten : (({ s with map := s.map.writeTile tx ty (markedTile (s.map.tile tx ty)) } : State).count
      .observedMarks 1).Unsaved p := by
    rcases h with rfl | h | h
    · exact .inl (by simp [TileMap.writeTile])
    · refine .inl ?_
      have h' : s.map.dirty[p.val] = true := h
      simp [TileMap.writeTile, Vector.getElem_set, h']
    · exact .inr h
  rw [State.markTile]
  split
  · refine State.Unsaved.startSave ?_
    rw [MapStore.join_eq]
    exact hwritten
  · exact hwritten

theorem State.startSave_tile (tx ty : Nat) (s : State) : s.startSave.map.tile tx ty = s.map.tile tx ty := by
  rcases State.startSave_cases s with ⟨he, -⟩ | ⟨q, rest, -, -, -, he⟩ <;> rw [he]
  rfl

theorem State.markTile_tile (h : s.map.Ok) (tx ty : Nat) :
    (s.markTile tx ty).map.tile tx ty = markedTile (s.map.tile tx ty) := by
  have hwritten := TileMap.tile_writeTile_same h tx ty (markedTile (s.map.tile tx ty))
  rw [State.markTile]
  split
  · exact (State.startSave_tile tx ty _).trans hwritten
  · exact hwritten

/-- The record of a mark: an observed tile counts one more, another begins at 1 (R102). -/
theorem markedTile_count : ∀ old : Byte, tileRecordOk old = true → tileObserved (markedTile old) = true ∧
    tileCount (markedTile old) = if tileObserved old = true then min (tileCount old + 1) 3 else 1 := by
  decide +kernel

/-- An observed tile record is of class CLIFF (R4). -/
theorem tileClass_of_observed : ∀ b : Byte, tileRecordOk b = true → tileObserved b = true → tileClass b = 6 := by
  decide +kernel

/-! ## The wheel drops (R104, R105) -/

theorem State.wheelDropReaction_eq (s : State) : s.wheelDropReaction =
    if s.trv.state.Stopped then s else s.halt .wheelDrop := by
  cases hstate : s.trv.state <;> simp [State.wheelDropReaction, Travel.moving, hstate]

/-- A wheel-drop edge loses the pose, sets its latch, and leaves the map. -/
theorem State.wheelDropEdge_frame (side : Nat) (s : State) :
    (s.wheelDropEdge side).pose = { s.pose with quality := .lost } ∧ (s.wheelDropEdge side).map = s.map ∧
    (s.wheelDropEdge side).rep.latches.getLsbD 6 = true ∧ (s.wheelDropEdge side).params = s.params := by
  obtain ⟨-, hparams, hmap, -, -, -, -, hlatches, hpose⟩ :=
    State.losePose_frame ((s.setLatch .wheelDrop).raise (.wheelDrop side))
  have hlatch : ((s.setLatch .wheelDrop).raise (.wheelDrop side)).losePose.rep.latches.getLsbD 6 = true := by
    rw [hlatches, State.raise_latches]
    exact State.setLatch_self .wheelDrop s
  have hpose' : ((s.setLatch .wheelDrop).raise (.wheelDrop side)).losePose.pose = { s.pose with quality := .lost } := by
    rw [hpose]
    simp
  have hmap' : ((s.setLatch .wheelDrop).raise (.wheelDrop side)).losePose.map = s.map := by
    rw [hmap]
    simp
  have hparams' : ((s.setLatch .wheelDrop).raise (.wheelDrop side)).losePose.params = s.params := by
    rw [hparams]
    simp
  rw [State.wheelDropEdge, State.wheelDropReaction_eq]
  split
  · exact ⟨hpose', hmap', hlatch, hparams'⟩
  · obtain ⟨-, -, -, -, -, -, -, -, -, hmap'', hpose'', -, -, -, hparams'', -, hlatches', -⟩ :=
      State.halt_effect .wheelDrop ((s.setLatch .wheelDrop).raise (.wheelDrop side)).losePose
    exact ⟨hpose''.trans hpose', hmap''.trans hmap', by rw [hlatches']; exact hlatch, hparams''.trans hparams'⟩

/-- The halt of a statement: the state HALTED, with nothing running and one BRAKE more than `s` had (R96). -/
structure Halted (s t : State) : Prop where
  state : t.trv.state = .halted
  queue : t.seg.queue = []
  cadence : t.seg.cadence = none
  yield : t.trv.yield = false
  grace : t.trv.grace = none
  backoff : t.trv.backoff = none
  sub : t.dock.sub = .none_
  dTx : t.port.dTx = s.port.dTx ++ [⟨kindBrake, []⟩]

theorem State.halt_halted (reason : HaltReason) (s : State) : Halted s (s.halt reason) := by
  obtain ⟨hstate, hqueue, hcadence, hyield, hgrace, hbackoff, hsub, hdTx, -⟩ := State.halt_effect reason s
  exact ⟨hstate, hqueue, hcadence, hyield, hgrace, hbackoff, hsub, hdTx⟩

theorem Halted.steady (h : Halted s t) (k : Steady t u) : Halted s u where
  state := by rw [k.trv, h.state]
  queue := by rw [k.seg, h.queue]
  cadence := by rw [k.seg, h.cadence]
  yield := by rw [k.trv, h.yield]
  grace := by rw [k.trv, h.grace]
  backoff := by rw [k.trv, h.backoff]
  sub := by rw [k.sub, h.sub]
  dTx := by rw [k.dTx, h.dTx]

/-- A wheel-drop edge halts the robot, unless it is stopped already. -/
theorem State.wheelDropEdge_motion (side : Nat) (s : State) :
    (s.trv.state.Stopped → (s.wheelDropEdge side).trv = s.trv ∧ (s.wheelDropEdge side).port.dTx = s.port.dTx) ∧
    (¬s.trv.state.Stopped → Halted s (s.wheelDropEdge side)) := by
  obtain ⟨-, -, -, htrv, -, hdTx, -⟩ := State.losePose_frame ((s.setLatch .wheelDrop).raise (.wheelDrop side))
  have htrv' : ((s.setLatch .wheelDrop).raise (.wheelDrop side)).losePose.trv = s.trv := by
    rw [htrv]
    simp
  have hdTx' : ((s.setLatch .wheelDrop).raise (.wheelDrop side)).losePose.port.dTx = s.port.dTx := by
    rw [hdTx]
    simp
  rw [State.wheelDropEdge, State.wheelDropReaction_eq, htrv']
  refine ⟨fun h => ?_, fun h => ?_⟩
  · rw [if_pos h]
    exact ⟨htrv', hdTx'⟩
  · rw [if_neg h]
    have hhalted := State.halt_halted .wheelDrop ((s.setLatch .wheelDrop).raise (.wheelDrop side)).losePose
    exact { hhalted with dTx := by rw [hhalted.dTx, hdTx'] }

/-! ## The stages after the edge -/

/-- From the cliff sensors on. -/
def State.finished (f : SenseFields) (flag : Bool) (s : State) : State :=
  ((s.takeBumps f).1.takeDockInputs f).forward f flag

theorem State.finished_frame (f : SenseFields) (flag : Bool) (s : State) :
    (∀ k, (s.finished f flag).haz.sensor k = s.haz.sensor k) ∧ (s.finished f flag).map = s.map ∧
    (s.finished f flag).store = s.store ∧ Latched s (s.finished f flag) := by
  obtain ⟨hsensor, hmap, hstore, hlatched, -⟩ := State.takeBumps_frame f s
  obtain ⟨hhaz', hmap', hstore', hlatches'⟩ := State.takeDockInputs_frame f (s.takeBumps f).1
  obtain ⟨hhaz'', hmap'', hstore'', hlatches'', -⟩ := State.forward_leaves f flag ((s.takeBumps f).1.takeDockInputs f)
  refine ⟨fun k => ?_, hmap''.trans (hmap'.trans hmap), hstore''.trans (hstore'.trans hstore),
    hlatched.trans (.of_eq (hlatches''.trans hlatches'))⟩
  rw [State.finished, hhaz'', hhaz', hsensor]

theorem State.finished_steady (f : SenseFields) (flag : Bool) (h : s.trv.state.Stopped) :
    Steady s (s.finished f flag) := by
  have hbumps := State.takeBumps_steady f h
  have hdock : Steady (s.takeBumps f).1 ((s.takeBumps f).1.takeDockInputs f) := by
    rw [State.takeDockInputs_stopped f (by rw [hbumps.trv]; exact h)]
    exact ⟨rfl, rfl, rfl, rfl, rfl⟩
  obtain ⟨-, -, -, -, hforward⟩ := State.forward_leaves f flag ((s.takeBumps f).1.takeDockInputs f)
  exact (hbumps.trans hdock).trans hforward

theorem Travel.Stopped.not_moving {v : Travel} (h : v.Stopped) : ¬v.moving = true := by
  rcases h with rfl | rfl | rfl <;> decide

/-- No mark is made with the pose LOST, or in DOCKED. -/
theorem State.takeCliff_unmarked (f : SenseFields) (k : Sensor) (h : s.pose.quality = .lost ∨ s.trv.state = .docked) :
    (s.takeCliff f k).1.map = s.map := by
  by_cases hedge : s.CliffEdge f k
  · obtain ⟨-, -, -, hmap, -⟩ := State.cliffEdge_frame k (s.moved f k)
    have hmark : (s.moved f k).cliffMarked k = ((s.moved f k).setLatch k.latch).raise (.cliff k) := by
      refine if_neg ?_
      rw [State.raise_pose, State.raise_trv]
      exact fun hc => h.elim hc.1 hc.2
    rw [State.takeCliff_edge hedge, hmap, hmark, State.raise_map]
    rfl
  · rw [State.takeCliff_quiet hedge]
    rfl

theorem State.cliffsOf_unmarked (f : SenseFields) : ∀ (ks : List Sensor) (s : State),
    s.pose.quality = .lost ∨ s.trv.state = .docked → (s.cliffsOf f ks).1.map = s.map
  | [], s, _ => rfl
  | k :: ks, s, h => by
    obtain ⟨-, hpose, -⟩ := State.takeCliff_frame f k s
    refine (State.cliffsOf_unmarked f ks _ ?_).trans (State.takeCliff_unmarked f k h)
    refine h.imp (fun h => by rw [hpose, h]) fun h => ?_
    rw [(State.takeCliff_steady f k (by rw [h]; decide)).trv, h]

/-! ## A frame with a wheel-drop edge -/

/-- The side of a wheel-drop edge: 2 for both, 0 left, 1 right (R104). -/
theorem HazardUnit.dropSide_edge {z : HazardUnit} (h : ¬z.NoDropEdge f) : z.dropSide f = some
    (if (f.dropL = true ∧ z.dropL = false) ∧ f.dropR = true ∧ z.dropR = false then 2
      else if f.dropL = true ∧ z.dropL = false then 0 else 1) := by
  revert h
  cases hl : f.dropL <;> cases hr : f.dropR <;> cases hzl : z.dropL <;> cases hzr : z.dropR <;>
    simp [HazardUnit.dropSide, HazardUnit.NoDropEdge, hl, hr, hzl, hzr]

theorem State.takeDrops_edge (h : ¬s.haz.NoDropEdge f) : ∃ side, s.haz.dropSide f = some side ∧
    s.takeDrops f = (s.withHaz { s.haz with dropL := f.dropL, dropR := f.dropR }).wheelDropEdge side := by
  refine ⟨_, HazardUnit.dropSide_edge h, ?_⟩
  simp only [State.takeDrops, HazardUnit.dropSide_edge h]
  rfl

/-- What a wheel-drop edge leaves at the end of its frame. -/
theorem State.takeSense_drop (hdrop : ¬s.haz.NoDropEdge f) :
    let t := (s.frameTaken .s 16).takeSense f
    (∃ u : State, t = u.forward f true) ∧ t.rep.latches.getLsbD 6 = true ∧
    t.pose = { s.pose with quality := .lost } ∧ t.map = s.map ∧
    (s.trv.state.Stopped → t.trv = s.trv ∧ t.port.dTx = s.port.dTx) ∧ (¬s.trv.state.Stopped → Halted s t) := by
  obtain ⟨side, hside, hdropped⟩ :=
    State.takeDrops_edge (s := (s.heard f).withHaz (s.listening f)) (f := f) hdrop
  let v : State := (s.heard f).withHaz { s.listening f with dropL := f.dropL, dropR := f.dropR }
  have hd : ((s.heard f).withHaz (s.listening f)).takeDrops f = v.wheelDropEdge side := hdropped
  obtain ⟨hpose, hmap, hlatch, -⟩ := State.wheelDropEdge_frame side v
  obtain ⟨hstands, hhalts⟩ := State.wheelDropEdge_motion side v
  have htaken : (s.frameTaken .s 16).takeSense f = ((v.wheelDropEdge side).takeCliffs f).1.finished f true := by
    have hflag : (s.haz.dropSide f).isSome = true := congrArg Option.isSome hside
    rw [State.takeSense_frameTaken, hflag, hd]
    simp only [Bool.true_or]
    rfl
  rw [htaken]
  generalize v.wheelDropEdge side = d at hpose hmap hlatch hstands hhalts
  have hstopped : d.trv.state.Stopped := by
    by_cases h : v.trv.state.Stopped
    · rw [(hstands h).1]
      exact h
    · exact .inl (hhalts h).state
  have hlost : d.pose.quality = .lost := by rw [hpose]
  rw [State.takeCliffs_eq]
  have hcliffs := State.cliffsOf_steady f [.fl, .fr, .sl, .sr] d hstopped.not_moving
  obtain ⟨-, -, hlatched, -⟩ := State.cliffsOf_frame f [.fl, .fr, .sl, .sr] d
  have hmarks := State.cliffsOf_unmarked f [.fl, .fr, .sl, .sr] d (.inl hlost)
  generalize (d.cliffsOf f [.fl, .fr, .sl, .sr]).1 = r at hcliffs hlatched hmarks
  have hsteady := hcliffs.trans (State.finished_steady f true (s := r) (by rw [hcliffs.trv]; exact hstopped))
  obtain ⟨-, hmap', -, hlatched'⟩ := State.finished_frame f true r
  exact ⟨⟨_, rfl⟩, (hlatched.trans hlatched') 6 hlatch, hsteady.pose.trans hpose, hmap'.trans (hmarks.trans hmap),
    fun h => ⟨hsteady.trv.trans (hstands h).1, hsteady.dTx.trans (hstands h).2⟩,
    fun h => { (hhalts h).steady hsteady with dTx := ((hhalts h).steady hsteady).dTx }⟩

end

end Sys2Proof.Machine
end

-- ==== Proofs: a frame with a cliff edge ====
section
/-! The first cliff edge of a frame spends its gate, marks its tile and halts a moving robot, whatever else the frame
brings (R97, R100 to R102). -/

namespace Sys2Proof.Machine

section

variable {s t u : State} {f : SenseFields} {k : Sensor}

/-! ## The sensors before and after one -/

/-- The order of the sensors about one of them (R98). -/
structure Sensor.Between (before : List Sensor) (k : Sensor) (after : List Sensor) : Prop where
  order : [.fl, .fr, .sl, .sr] = before ++ k :: after
  less : ∀ j ∈ before, j.number < k.number
  more : ∀ j ∈ after, k.number < j.number
  nodup : before.Nodup ∧ after.Nodup

theorem Sensor.exists_between : ∀ k : Sensor, ∃ before after, Sensor.Between before k after
  | .fl => ⟨[], [.fr, .sl, .sr], rfl, by decide, by decide, by decide⟩
  | .fr => ⟨[.fl], [.sl, .sr], rfl, by decide, by decide, by decide⟩
  | .sl => ⟨[.fl, .fr], [.sr], rfl, by decide, by decide, by decide⟩
  | .sr => ⟨[.fl, .fr, .sl], [], rfl, by decide, by decide, by decide⟩

theorem Sensor.Between.not_mem {before after : List Sensor} (h : Sensor.Between before k after) :
    k ∉ before ∧ k ∉ after :=
  ⟨fun hk => lt_irrefl _ (h.less k hk), fun hk => lt_irrefl _ (h.more k hk)⟩

theorem State.levels_other (f : SenseFields) (s : State) {j : Sensor} : ∀ {ks : List Sensor} (_ : j ∉ ks)
    (z : HazardUnit), (s.levels f ks z).sensor j = z.sensor j
  | [], _, z => rfl
  | k :: ks, hj, z => by
    obtain ⟨hne, hnot⟩ := not_or.mp (mt List.mem_cons.mpr hj)
    exact (State.levels_other f s hnot _).trans (HazardUnit.sensor_setSensor_other hne z _)

/-- The part as a sensor takes its edge, those before it having taken none. -/
def State.reaching (f : SenseFields) (before : List Sensor) (k : Sensor) (s : State) : State :=
  (s.withHaz (s.levels f before s.haz)).moved f k

theorem State.takeCliffs_edge {before after : List Sensor} (hk : Sensor.Between before k after)
    (hedge : s.CliffEdge f k) (hfirst : ∀ j ∈ before, s.NoCliffEdge f j) :
    s.takeCliffs f = (((s.reaching f before k).cliffEdge k |>.cliffsOf f after).1, true) := by
  have hedge' : (s.withHaz (s.levels f before s.haz)).CliffEdge f k := by
    have hsensor : (s.withHaz (s.levels f before s.haz)).haz.sensor k = s.haz.sensor k :=
      State.levels_other f s hk.not_mem.1 s.haz
    rw [State.CliffEdge, hsensor, State.threshold_congr (s := s) (t := s.withHaz (s.levels f before s.haz)) rfl rfl rfl]
    exact hedge
  rw [State.takeCliffs_eq, hk.order, State.cliffsOf_append, State.cliffsOf_quiet hk.nodup.1 f s hfirst]
  simp only [State.cliffsOf, State.takeCliff_edge hedge', Bool.false_or, Bool.true_or]
  rfl

/-- A record that takes an edge is UNSAFE, its gate SPENT (R97, R99). -/
theorem State.levelMoved_edge (h : s.CliffEdge f k) : s.levelMoved f k = ⟨.unsafe_, .spent⟩ := by
  obtain ⟨hlevel, -, hlow⟩ := h
  simp only [State.levelMoved, hlevel, if_pos hlow]

/-! ## The mark through the later sensors -/

theorem State.markPoint_some {p : Int × Int} {tx ty : Nat} (hpose : s.pose.quality ≠ .lost)
    (hstate : s.trv.state ≠ .docked) (hp : pointTile p.1 p.2 = some (tx, ty)) : s.markPoint p = s.markTile tx ty := by
  rw [State.markPoint, if_pos ⟨hpose, hstate⟩, hp]

theorem State.Unsaved.markPoint {q : Page} (h : s.Unsaved q) (p : Int × Int) : (s.markPoint p).Unsaved q := by
  rw [State.markPoint]
  split
  · split
    · exact State.Unsaved.markTile _ _ (.inr h)
    · exact h
  · exact h

theorem State.Unsaved.congr {q : Page} (h : s.Unsaved q) (hmap : t.map = s.map) (hstore : t.store = s.store) :
    t.Unsaved q := by
  rw [State.Unsaved, hmap, hstore]
  exact h

theorem State.Unsaved.cliffsOf {q : Page} (f : SenseFields) : ∀ (ks : List Sensor) {s : State} (_ : s.Unsaved q),
    (s.cliffsOf f ks).1.Unsaved q
  | [], _, h => h
  | k :: ks, s, h => by
    refine State.Unsaved.cliffsOf f ks ?_
    by_cases hedge : s.CliffEdge f k
    · obtain ⟨-, -, -, hmap, hstore, -⟩ := State.cliffEdge_frame k (s.moved f k)
      have hraised : (((s.moved f k).setLatch k.latch).raise (.cliff k)).Unsaved q := h.congr (State.raise_map _ _) (State.raise_store _ _)
      rw [State.takeCliff_edge hedge]
      exact (hraised.markPoint _).congr hmap hstore
    · rw [State.takeCliff_quiet hedge]
      exact h

theorem Keeps.cliffsOf {c : Instr} (f : SenseFields) : ∀ (ks : List Sensor) (s : State), Keeps c s (s.cliffsOf f ks).1
  | [], s => .refl c s
  | k :: ks, s => (Keeps.takeCliff f s k).trans (Keeps.cliffsOf f ks _)

theorem not_overridesTiles_departure : ¬OverridesTiles .departure := by
  rintro (⟨p, h, -⟩ | ⟨p, h, -⟩ | ⟨k, p, h | h, -⟩) <;> cases h

/-- The tile of an edge, marked: of class CLIFF, observed, and counted once more at least (R102). -/
structure TileMarked (old : Byte) (tx ty : Nat) (t : State) : Prop where
  cliff : tileClass (t.map.tile tx ty) = 6
  observed : tileObserved (t.map.tile tx ty) = true
  counted : (if tileObserved old = true then min (tileCount old + 1) 3 else 1) ≤ tileCount (t.map.tile tx ty)
  unsaved : t.Unsaved (tilePage tx ty)

theorem State.markTile_marked (hmem : s.map.Ok) (tx ty : Nat) : TileMarked (s.map.tile tx ty) tx ty (s.markTile tx ty) := by
  have hold := TileMap.tile_ok hmem tx ty
  obtain ⟨hok, -⟩ := markedTile_ok (s.map.tile tx ty)
  obtain ⟨hobs, hcount⟩ := markedTile_count _ hold
  refine ⟨?_, ?_, ?_, State.Unsaved.markTile tx ty (.inl rfl)⟩ <;> rw [State.markTile_tile hmem]
  · exact tileClass_of_observed _ hok hobs
  · exact hobs
  · exact hcount.ge

theorem TileMarked.congr {old : Byte} {tx ty : Nat} (h : TileMarked old tx ty s) (hmap : t.map = s.map)
    (hstore : t.store = s.store) : TileMarked old tx ty t := by
  refine ⟨?_, ?_, ?_, h.unsaved.congr hmap hstore⟩ <;> rw [hmap]
  · exact h.cliff
  · exact h.observed
  · exact h.counted

theorem TileMarked.cliffsOf {old : Byte} {tx ty : Nat} (h : TileMarked old tx ty s) (hmem : s.MemoryOk) (hx : tx < 256)
    (hy : ty < 256) (f : SenseFields) (ks : List Sensor) : TileMarked old tx ty (s.cliffsOf f ks).1 := by
  have hkeeps : Keeps .departure s (s.cliffsOf f ks).1 := Keeps.cliffsOf f ks s
  obtain ⟨hobs, hcount⟩ := hkeeps.tiles not_overridesTiles_departure hmem tx ty hx hy h.observed
  exact ⟨tileClass_of_observed _ (TileMap.tile_ok (hkeeps.memory hmem).1 tx ty) hobs, hobs, h.counted.trans hcount,
    h.unsaved.cliffsOf f ks⟩

/-- A point on the map lies in a tile of it (R1, R3). -/
theorem pointTile_lt {x y : Int} {tx ty : Nat} (h : pointTile x y = some (tx, ty)) : tx < 256 ∧ ty < 256 := by
  rw [pointTile] at h
  split at h
  next hmap =>
    cases h
    exact ⟨coordinate_lt ⟨hmap.1, hmap.2.1⟩, coordinate_lt hmap.2.2⟩
  next => cases h

/-! ## What the first edge leaves -/

/-- What the first cliff edge of a frame leaves at the end of it. -/
theorem State.takeSense_cliff (hmem : s.MemoryOk) (hdrop : s.haz.NoDropEdge f) (hedge : s.CliffEdge f k)
    (hfirst : ∀ j : Sensor, j.number < k.number → s.NoCliffEdge f j) :
    let t := (s.frameTaken .s 16).takeSense f
    (∃ u : State, t = u.forward f true) ∧ t.haz.sensor k = ⟨.unsafe_, .spent⟩ ∧
    t.rep.latches.getLsbD k.latch.position = true ∧ (s.trv.state.moving = true → Halted s t) ∧
    (s.trv.state = .docked ∨ s.pose.quality = .lost → t.map = s.map) ∧
    ∀ tx ty, s.trv.state ≠ .docked → s.pose.quality ≠ .lost →
      pointTile (s.projected k).1 (s.projected k).2 = some (tx, ty) → TileMarked (s.map.tile tx ty) tx ty t := by
  obtain ⟨before, after, hk⟩ := Sensor.exists_between k
  let v : State := (s.heard f).withHaz { s.listening f with dropL := f.dropL, dropR := f.dropR }
  have hv : ((s.heard f).withHaz (s.listening f)).takeDrops f = v :=
    State.takeDrops_quiet (s := (s.heard f).withHaz (s.listening f)) hdrop
  have hsensor (j : Sensor) : v.haz.sensor j = s.haz.sensor j := by cases j <;> rfl
  have hquiet : ∀ j ∈ before, v.NoCliffEdge f j := fun j hj =>
    (State.noCliffEdge_congr (hsensor j) rfl rfl rfl f).mpr (hfirst j (hk.less j hj))
  have hedge' : v.CliffEdge f k := by
    rw [State.CliffEdge, hsensor, State.threshold_congr (s := s) (t := v) rfl rfl rfl]
    exact hedge
  let m := v.reaching f before k
  have hlevel : m.haz.sensor k = ⟨.unsafe_, .spent⟩ := by
    have hreached : (v.withHaz (v.levels f before v.haz)).haz.sensor k = v.haz.sensor k :=
      State.levels_other f v hk.not_mem.1 v.haz
    change (HazardUnit.setSensor _ k _).sensor k = _
    rw [State.levelMoved_congr (s := v) hreached rfl rfl rfl]
    exact (HazardUnit.sensor_setSensor_same k _ _).trans (State.levelMoved_edge hedge')
  let r := (v.takeCliffs f).1
  have hcliffs : v.takeCliffs f = (((m.cliffEdge k).cliffsOf f after).1, true) := State.takeCliffs_edge hk hedge' hquiet
  have hr : r = ((m.cliffEdge k).cliffsOf f after).1 := by
    rw [show r = (v.takeCliffs f).1 from rfl, hcliffs]
  have htaken : (s.frameTaken .s 16).takeSense f = r.finished f true := by
    rw [State.takeSense_frameTaken, hv]
    simp only [congrArg Prod.snd hcliffs, Bool.or_true, Bool.true_or]
    rfl
  obtain ⟨hhaz, -, -, hmap, hstore, hlatches⟩ := State.cliffEdge_frame k m
  obtain ⟨-, -, hlatched, hothers, -⟩ := State.cliffsOf_frame f after (m.cliffEdge k)
  obtain ⟨hsensor', hmap', hstore', hlatched'⟩ := State.finished_frame f true r
  rw [htaken]
  refine ⟨⟨_, rfl⟩, ?_, ?_, fun hmove => ?_, fun hunmarked => ?_, fun tx ty hdocked hlost hpoint => ?_⟩
  · rw [hsensor', hr, hothers k hk.not_mem.2, hhaz, hlevel]
  · refine hlatched' _ ?_
    rw [hr]
    refine hlatched _ ?_
    rw [hlatches]
    exact State.setLatch_self k.latch m
  · have hhalted : Halted s (m.cliffEdge k) := by
      obtain ⟨-, -, -, -, -, hdTx, -⟩ := State.cliffMarked_frame k m
      rw [State.cliffEdge_eq, if_pos (show m.trv.state.moving = true from hmove)]
      have h := State.halt_halted .cliff (m.cliffMarked k)
      exact { h with dTx := by rw [h.dTx, hdTx]; rfl }
    have hstopped : (m.cliffEdge k).trv.state.Stopped := .inl hhalted.state
    have hsteady := State.cliffsOf_steady f after (m.cliffEdge k) hstopped.not_moving
    rw [← hr] at hsteady
    exact hhalted.steady (hsteady.trans (State.finished_steady f true (by rw [hsteady.trv]; exact hstopped)))
  · have hmarks := State.cliffsOf_unmarked f [.fl, .fr, .sl, .sr] v hunmarked.symm
    rw [← State.takeCliffs_eq] at hmarks
    exact hmap'.trans hmarks
  · obtain ⟨hx, hy⟩ := pointTile_lt hpoint
    have hmarked : m.cliffMarked k = ((m.setLatch k.latch).raise (.cliff k)).markTile tx ty :=
      State.markPoint_some (by rw [State.raise_pose]; exact hlost) (by rw [State.raise_trv]; exact hdocked) hpoint
    have hraised : ((m.setLatch k.latch).raise (.cliff k)).map = s.map := State.raise_map _ _
    have htile : TileMarked (s.map.tile tx ty) tx ty (m.cliffEdge k) := by
      refine TileMarked.congr (s := m.cliffMarked k) ?_ hmap hstore
      rw [hmarked, ← hraised]
      exact State.markTile_marked (by rw [hraised]; exact hmem.1) tx ty
    have hkeeps : Keeps .departure m (m.cliffEdge k) :=
      (((Keeps.setLatch _ _).trans (Keeps.raise _ _)).trans (Keeps.markPoint _ _)).trans (Keeps.cliffReaction _)
    have hlater := htile.cliffsOf (hkeeps.memory hmem) hx hy f after
    rw [← hr] at hlater
    exact hlater.congr hmap' hstore'

end

end Sys2Proof.Machine
end

-- ==== Proofs: a frame whose only edge is a hazard ====
section
/-! A frame whose only edge is a wheel drop, or one sensor's cliff edge, given exactly; the statement about hazard edges
(R36, R45, R96, R98, R100, R102, R105, R151). -/

namespace Sys2Proof.Machine

section

variable {s t u : State} {f : SenseFields} {k : Sensor}

/-! ## The hazard record stands apart from the effects of an edge -/

theorem State.raise_withHaz (e : Event) (z : HazardUnit) (s : State) : (s.withHaz z).raise e = (s.raise e).withHaz z := by
  simp only [State.raise_eq]
  rfl

theorem State.raiseAll_withHaz (es : List Event) (z : HazardUnit) (s : State) :
    (s.withHaz z).raiseAll es = (s.raiseAll es).withHaz z := by
  simp only [State.raiseAll_eq]
  rfl

theorem State.halt_withHaz (reason : HaltReason) (z : HazardUnit) (s : State) :
    (s.withHaz z).halt reason = (s.halt reason).withHaz z := by
  have habort : ((s.withHaz z).brake.enter .halted).abortWhole reason.abort =
      ((s.brake.enter .halted).abortWhole reason.abort).withHaz z :=
    State.raiseAll_withHaz _ z { s.brake.enter .halted with seg := { (s.brake.enter .halted).seg with queue := [] } }
  rw [State.halt, State.halt, habort, State.raiseDockFailed, State.raiseDockFailed, State.raise_withHaz, apply_ite (State.withHaz z)]
  rfl

theorem State.losePose_withHaz (z : HazardUnit) (s : State) : (s.withHaz z).losePose = s.losePose.withHaz z := by
  have hraised : ((s.withHaz z).setQuality .lost).raise .poseLost = ((s.setQuality .lost).raise .poseLost).withHaz z :=
    State.raise_withHaz _ z (s.setQuality .lost)
  rw [State.losePose, State.losePose, hraised, apply_ite (State.withHaz z)]
  rfl

theorem State.wheelDropEdge_withHaz (side : Nat) (z : HazardUnit) (s : State) :
    (s.withHaz z).wheelDropEdge side = (s.wheelDropEdge side).withHaz z := by
  have hraised : ((s.withHaz z).setLatch .wheelDrop).raise (.wheelDrop side) =
      ((s.setLatch .wheelDrop).raise (.wheelDrop side)).withHaz z := State.raise_withHaz _ z (s.setLatch .wheelDrop)
  rw [State.wheelDropEdge, State.wheelDropEdge, hraised, State.losePose_withHaz, State.wheelDropReaction_eq,
    State.wheelDropReaction_eq, State.halt_withHaz, apply_ite (State.withHaz z)]
  rfl

theorem State.startSave_withHaz (z : HazardUnit) (s : State) : (s.withHaz z).startSave = s.startSave.withHaz z := by
  rcases State.startSave_cases s with ⟨hs, hidle⟩ | ⟨p, rest, herror, hcurrent, hlist, hs⟩
  · rcases State.startSave_cases (s.withHaz z) with ⟨ht, -⟩ | ⟨q, more, herror, hcurrent, hlist, -⟩
    · rw [hs, ht]
    · have herror' : s.store.error = false := herror
      have hcurrent' : s.store.current = none := hcurrent
      have hlist' : s.store.list = q :: more := hlist
      simp [herror', hcurrent', hlist'] at hidle
  · rw [hs]
    exact State.startSave_cons (s := s.withHaz z) herror hcurrent hlist

theorem State.markTile_withHaz (tx ty : Nat) (z : HazardUnit) (s : State) :
    (s.withHaz z).markTile tx ty = (s.markTile tx ty).withHaz z := by
  let t := ({ s with map := s.map.writeTile tx ty (markedTile (s.map.tiles.read (tileAddress tx ty))) } : State).count
    .observedMarks 1
  rw [State.markTile, State.markTile, apply_ite (State.withHaz z)]
  exact if_congr Iff.rfl (State.startSave_withHaz z { t with store := t.store.join (tilePage tx ty) }) rfl

theorem State.markPoint_withHaz (p : Int × Int) (z : HazardUnit) (s : State) :
    (s.withHaz z).markPoint p = (s.markPoint p).withHaz z := by
  rw [State.markPoint, State.markPoint, apply_ite (State.withHaz z)]
  refine if_congr Iff.rfl ?_ rfl
  cases pointTile p.1 p.2 with
  | none => rfl
  | some tile => exact State.markTile_withHaz tile.1 tile.2 z s

theorem State.cliffEdge_withHaz (k : Sensor) (z : HazardUnit) (s : State) :
    (s.withHaz z).cliffEdge k = (s.cliffEdge k).withHaz z := by
  have hraised : ((s.withHaz z).setLatch k.latch).raise (.cliff k) =
      ((s.setLatch k.latch).raise (.cliff k)).withHaz z := State.raise_withHaz _ z (s.setLatch k.latch)
  have hmarked : (s.withHaz z).cliffMarked k = (s.cliffMarked k).withHaz z := by
    rw [State.cliffMarked, State.cliffMarked, hraised]
    exact State.markPoint_withHaz (s.projected k) z _
  rw [State.cliffEdge_eq, State.cliffEdge_eq, hmarked, State.halt_withHaz, apply_ite (State.withHaz z)]
  rfl

/-! ## The sensors' records, judged one after the other -/

/-- The hazard record with the records of the sensors of a list replaced. -/
def HazardUnit.setAll (g : Sensor → CliffSensor) (ks : List Sensor) (z : HazardUnit) : HazardUnit :=
  ks.foldl (fun z j => z.setSensor j (g j)) z

theorem HazardUnit.setAll_congr {g h : Sensor → CliffSensor} {ks : List Sensor} (hgh : ∀ j ∈ ks, g j = h j)
    (z : HazardUnit) : z.setAll g ks = z.setAll h ks :=
  List.foldl_ext _ _ _ fun z j hj => by rw [hgh j hj]

theorem HazardUnit.setAll_order (g : Sensor → CliffSensor) {before after : List Sensor}
    (hk : Sensor.Between before k after) (z : HazardUnit) :
    ((z.setAll g before).setSensor k (g k)).setAll g after =
      { z with fl := g .fl, fr := g .fr, sl := g .sl, sr := g .sr } := by
  have hall : ((z.setAll g before).setSensor k (g k)).setAll g after = z.setAll g (before ++ k :: after) := by
    simp only [HazardUnit.setAll, List.foldl_append, List.foldl_cons]
  rw [hall, ← hk.order]
  rfl

/-! ## A frame whose only edge is a wheel drop -/

theorem State.wheelDropEdge_eq (side : Nat) (s : State) : s.wheelDropEdge side =
    let t := (s.setLatch .wheelDrop).raise (.wheelDrop side)
    let t := if s.pose.quality = .lost then t
      else ({ t with pose := { s.pose with quality := .lost } } : State).raise .poseLost
    if s.trv.state = .halted ∨ s.trv.state = .fault ∨ s.trv.state = .locked then t
    else t.haltTaken .wheelDrop .wheelDrop := by
  have hlost : ((s.setLatch .wheelDrop).raise (.wheelDrop side)).losePose = if s.pose.quality = .lost
      then (s.setLatch .wheelDrop).raise (.wheelDrop side)
      else ({ (s.setLatch .wheelDrop).raise (.wheelDrop side) with
        pose := { s.pose with quality := .lost } } : State).raise .poseLost := by
    rw [State.losePose, State.setQuality, State.raise_pose]
    rfl
  obtain ⟨-, -, -, htrv, -⟩ := State.losePose_frame ((s.setLatch .wheelDrop).raise (.wheelDrop side))
  rw [State.wheelDropEdge, State.wheelDropReaction_eq, htrv, hlost, State.raise_trv, State.halt_eq]
  rfl

theorem State.takeSense_onlyDrop (hdrop : ¬s.haz.NoDropEdge f) (hbump : s.haz.NoBumpEdge f)
    (hcliff : ∀ j, ({ s with pose := { s.pose with quality := .lost } } : State).NoCliffEdge f j) :
    let lost : State := { s with pose := { s.pose with quality := .lost } }
    ∃ side, s.haz.dropSide f = some side ∧ (s.frameTaken .s 16).takeSense f =
      ((({ lost.levelsMoved f with pose := s.pose } : State).wheelDropEdge side).takeDockInputs f).forward f true := by
  intro lost
  obtain ⟨side, hside, hdropped⟩ :=
    State.takeDrops_edge (s := (s.heard f).withHaz (s.listening f)) (f := f) hdrop
  let v : State := (s.heard f).withHaz { s.listening f with dropL := f.dropL, dropR := f.dropR }
  have hd : ((s.heard f).withHaz (s.listening f)).takeDrops f = v.wheelDropEdge side := hdropped
  obtain ⟨hpose, hmap, -, hparams⟩ := State.wheelDropEdge_frame side v
  have hhaz : (v.wheelDropEdge side).haz = v.haz := by
    rw [← hd, State.takeDrops_haz]
    rfl
  have hsensor (j : Sensor) : (v.wheelDropEdge side).haz.sensor j = lost.haz.sensor j := by
    rw [hhaz]
    cases j <;> rfl
  have hlevel (j : Sensor) : (v.wheelDropEdge side).levelMoved f j = lost.levelMoved f j :=
    State.levelMoved_congr (hsensor j) hpose hmap hparams f
  have hquiet : ∀ j, (v.wheelDropEdge side).NoCliffEdge f j := fun j =>
    (State.noCliffEdge_congr (hsensor j) hpose hmap hparams f).mpr (hcliff j)
  have hcliffs := State.takeCliffs_quiet hquiet
  simp only [hlevel] at hcliffs
  have hbumps := State.takeBumps_quiet (s := ((v.wheelDropEdge side).takeCliffs f).1) (f := f)
    (by rw [hcliffs, hhaz]; exact hbump)
  refine ⟨side, hside, ?_⟩
  have hflag : (s.haz.dropSide f).isSome = true := congrArg Option.isSome hside
  have hmoved : ({ lost.levelsMoved f with pose := s.pose } : State) = v.withHaz (lost.levelsMoved f).haz := by
    rw [State.levelsMoved_eq]
    rfl
  have hlevels : ({ ((v.wheelDropEdge side).takeCliffs f).1.haz with bumpL := f.bumpL, bumpR := f.bumpR } : HazardUnit) =
      (lost.levelsMoved f).haz := by
    rw [hcliffs, hhaz, State.levelsMoved_eq]
    rfl
  have hstate : (((v.wheelDropEdge side).takeCliffs f).1.takeBumps f).1 =
      ({ lost.levelsMoved f with pose := s.pose } : State).wheelDropEdge side := by
    rw [hbumps, hlevels, hcliffs, hmoved, State.wheelDropEdge_withHaz side _ v]
    rfl
  rw [State.takeSense_frameTaken, hflag, hd]
  simp only [hstate, Bool.true_or]

/-! ## A frame whose only edge is one sensor's -/

/-- The part as a sensor is judged: the map is marked for those after the one that takes the edge (R98, R102). -/
def State.judging (k j : Sensor) (s : State) : State :=
  if j.number ≤ k.number then s else { s with map := (s.markPoint (s.projected k)).map }

theorem State.judging_upTo {j : Sensor} (h : j.number ≤ k.number) : s.judging k j = s := if_pos h

theorem State.judging_after {j : Sensor} (h : k.number < j.number) :
    s.judging k j = { s with map := (s.markPoint (s.projected k)).map } := if_neg (by omega)

theorem State.startSave_map_congr (hmap : t.map = s.map) (hstore : t.store = s.store) :
    t.startSave.map = s.startSave.map := by
  rcases State.startSave_cases s with ⟨hs, hidle⟩ | ⟨p, rest, herror, hcurrent, hlist, hs⟩
  · rcases State.startSave_cases t with ⟨ht, -⟩ | ⟨q, more, herror, hcurrent, hlist, -⟩
    · rw [hs, ht, hmap]
    · rw [hstore] at herror hcurrent hlist
      simp [herror, hcurrent, hlist] at hidle
  · rw [hs, State.startSave_cons (s := t) (by rw [hstore]; exact herror) (by rw [hstore]; exact hcurrent)
      (by rw [hstore]; exact hlist), State.saving, hmap]

theorem State.markTile_map_congr (hmap : t.map = s.map) (hstore : t.store = s.store) (hparams : t.params = s.params)
    (tx ty : Nat) : (t.markTile tx ty).map = (s.markTile tx ty).map := by
  let marked (u : State) : State := ({ u with
    map := u.map.writeTile tx ty (markedTile (u.map.tiles.read (tileAddress tx ty))) } : State).count .observedMarks 1
  have hmarked : (marked t).map = (marked s).map := by
    simp only [marked, State.count, hmap]
  have hparam : (marked t).paramNat .autoSave = (marked s).paramNat .autoSave := by
    simp only [marked, State.paramNat, State.param, State.count, hparams]
  rw [State.markTile, State.markTile, apply_ite State.map, apply_ite State.map]
  refine if_congr (by rw [← hparam]) ?_ hmarked
  exact State.startSave_map_congr (t := { marked t with store := (marked t).store.join (tilePage tx ty) })
    (s := { marked s with store := (marked s).store.join (tilePage tx ty) }) hmarked (by simp only [marked, State.count, hstore])

/-- A mark's map depends on the map, the store, the parameters, the pose and the travel state alone. -/
theorem State.markPoint_map_congr (hmap : t.map = s.map) (hstore : t.store = s.store) (hparams : t.params = s.params)
    (hpose : t.pose = s.pose) (htrv : t.trv = s.trv) (p : Int × Int) : (t.markPoint p).map = (s.markPoint p).map := by
  rw [State.markPoint, State.markPoint, hpose, htrv, apply_ite State.map, apply_ite State.map]
  refine if_congr Iff.rfl ?_ hmap
  cases pointTile p.1 p.2 with
  | none => exact hmap
  | some tile => exact State.markTile_map_congr hmap hstore hparams tile.1 tile.2

/-- The hazard record after a frame whose only edge is a sensor's. -/
def State.levelsAbout (f : SenseFields) (k : Sensor) (s : State) : HazardUnit := { (s.levelsMoved f).haz with
  fl := (s.judging k .fl).levelMoved f .fl, fr := (s.judging k .fr).levelMoved f .fr
  sl := (s.judging k .sl).levelMoved f .sl, sr := (s.judging k .sr).levelMoved f .sr }

theorem State.takeSense_onlyCliff (hdrop : s.haz.NoDropEdge f) (hbump : s.haz.NoBumpEdge f) (hedge : s.CliffEdge f k)
    (hcliff : ∀ j, j ≠ k → (s.judging k j).NoCliffEdge f j) : (s.frameTaken .s 16).takeSense f =
      (((((s.levelsMoved f).withHaz (s.levelsAbout f k)).cliffEdge k).takeDockInputs f).forward f true) := by
  obtain ⟨before, after, hk⟩ := Sensor.exists_between k
  let v : State := (s.heard f).withHaz { s.listening f with dropL := f.dropL, dropR := f.dropR }
  have hv : ((s.heard f).withHaz (s.listening f)).takeDrops f = v :=
    State.takeDrops_quiet (s := (s.heard f).withHaz (s.listening f)) hdrop
  have hsensor (j : Sensor) : v.haz.sensor j = s.haz.sensor j := by cases j <;> rfl
  have hless {j : Sensor} (hj : j ∈ before) : s.judging k j = s := State.judging_upTo (hk.less j hj).le
  have hquiet : ∀ j ∈ before, v.NoCliffEdge f j := fun j hj =>
    (State.noCliffEdge_congr (hsensor j) rfl rfl rfl f).mpr
      (hless hj ▸ hcliff j (ne_of_mem_of_not_mem hj hk.not_mem.1))
  have hedge' : v.CliffEdge f k := by
    rw [State.CliffEdge, hsensor, State.threshold_congr (s := s) (t := v) rfl rfl rfl]
    exact hedge
  let m := v.reaching f before k
  have hcliffs : v.takeCliffs f = (((m.cliffEdge k).cliffsOf f after).1, true) := State.takeCliffs_edge hk hedge' hquiet
  obtain ⟨hhaz, hpose, hparams, hmap, -⟩ := State.cliffEdge_frame k m
  have hmap' : (m.cliffEdge k).map = (s.markPoint (s.projected k)).map :=
    hmap.trans (State.markPoint_map_congr (s := s) (t := (m.setLatch k.latch).raise (.cliff k)) (State.raise_map _ _) (State.raise_store _ _) (State.raise_params _ _)
      (State.raise_pose _ _) (State.raise_trv _ _) _)
  let g := fun j => (s.judging k j).levelMoved f j
  have hreached (j : Sensor) (hj : j ∈ before → False) : (v.levels f before v.haz).sensor j = s.haz.sensor j :=
    (State.levels_other f v hj v.haz).trans (hsensor j)
  have hlater {j : Sensor} (hj : j ∈ after) : (m.cliffEdge k).haz.sensor j = (s.judging k j).haz.sensor j := by
    have hne : j ≠ k := ne_of_mem_of_not_mem hj hk.not_mem.2
    have hnot : j ∉ before := fun h => absurd (hk.less j h) (by have := hk.more j hj; omega)
    rw [hhaz, State.judging_after (hk.more j hj)]
    exact (HazardUnit.sensor_setSensor_other hne _ _).trans (hreached j hnot)
  have hmarked {j : Sensor} (hj : j ∈ after) : (m.cliffEdge k).map = (s.judging k j).map := by
    rw [hmap', State.judging_after (hk.more j hj)]
  have hposed (j : Sensor) : (m.cliffEdge k).pose = (s.judging k j).pose := by
    rw [hpose, State.judging]
    split <;> rfl
  have hset (j : Sensor) : (m.cliffEdge k).params = (s.judging k j).params := by
    rw [hparams, State.judging]
    split <;> rfl
  have hquiet' : ∀ j ∈ after, (m.cliffEdge k).NoCliffEdge f j := fun j hj =>
    (State.noCliffEdge_congr (hlater hj) (hposed j) (hmarked hj) (hset j) f).mpr
      (hcliff j (ne_of_mem_of_not_mem hj hk.not_mem.2))
  have hm : m.haz = (v.haz.setAll g before).setSensor k (g k) := by
    have hbefore : v.levels f before v.haz = v.haz.setAll g before :=
      HazardUnit.setAll_congr (fun j hj => (State.levelMoved_congr (hsensor j) rfl rfl rfl f).trans
        (by simp only [g, hless hj])) v.haz
    have hself : (v.withHaz (v.levels f before v.haz)).levelMoved f k = g k :=
      (State.levelMoved_congr (s := s) (t := v.withHaz (v.levels f before v.haz)) (hreached k hk.not_mem.1) rfl rfl rfl f).trans
        (by simp only [g, State.judging_upTo (le_refl k.number)])
    rw [← hself, ← hbefore]
    rfl
  have hlevels : (m.cliffEdge k).levels f after (m.cliffEdge k).haz =
      { v.haz with fl := g .fl, fr := g .fr, sl := g .sl, sr := g .sr } := by
    rw [← HazardUnit.setAll_order g hk v.haz, ← hm, ← hhaz]
    exact HazardUnit.setAll_congr (fun j hj => State.levelMoved_congr (hlater hj) (hposed j) (hmarked hj) (hset j) f) _
  rw [State.cliffsOf_quiet hk.nodup.2 f _ hquiet', hlevels] at hcliffs
  have hbumps := State.takeBumps_quiet (s := (v.takeCliffs f).1) (f := f) (by rw [hcliffs]; exact hbump)
  have hhazard : ({ (v.takeCliffs f).1.haz with bumpL := f.bumpL, bumpR := f.bumpR } : HazardUnit) =
      s.levelsAbout f k := by
    rw [hcliffs, State.levelsAbout, State.levelsMoved_eq]
    rfl
  have hedged : ((v.takeCliffs f).1.takeBumps f).1 = ((s.levelsMoved f).withHaz (s.levelsAbout f k)).cliffEdge k := by
    have hmoved : (s.levelsMoved f).withHaz (s.levelsAbout f k) = m.withHaz (s.levelsAbout f k) := by
      rw [State.levelsMoved_eq]
      rfl
    rw [hbumps, hhazard, hcliffs, hmoved, State.cliffEdge_withHaz k _ m]
    rfl
  have hflag : (v.takeCliffs f).2 = true := by rw [hcliffs]
  rw [State.takeSense_frameTaken, hv]
  simp only [hedged, hflag, Bool.or_true, Bool.true_or]

/-- A cliff edge in the statement's words (R96, R100 to R102). -/
theorem State.cliffEdge_spelled (k : Sensor) (s : State) : s.cliffEdge k =
    let t := ((s.setLatch k.latch).raise (.cliff k)).markPoint (s.projected k)
    if s.trv.state = .halted ∨ s.trv.state = .docked ∨ s.trv.state = .fault ∨ s.trv.state = .locked then t
    else t.haltTaken .cliff .cliff := by
  rw [State.cliffEdge_eq, State.halt_eq]
  by_cases hmove : s.trv.state.moving = true
  · exact (if_pos hmove).trans (if_neg fun h => (Travel.not_moving_iff _).mpr h hmove).symm
  · exact (if_neg hmove).trans (if_pos ((Travel.not_moving_iff _).mp hmove)).symm


/-! ## The statement -/

/-- Settles O55: what an edge leaves whatever else its frame brings, and a frame of one edge alone stage by stage. -/
theorem hazardEdgesHaltTheRobot : Obligations.HazardEdgesHaltTheRobot := by
  unfold Obligations.HazardEdgesHaltTheRobot
  refine ⟨?_, ?_, ?_⟩
  · intro s p hrun hlen hmem f halted
    have hspelled {t : State} (h : Halted s t) : halted t :=
      ⟨h.state, h.queue, h.cadence, h.yield, h.grace, h.backoff, h.sub, h.dTx⟩
    refine ⟨fun hdrop => ?_, fun sensor hdrop hedge hfirst => ?_⟩
    · obtain ⟨hflag, hlatch, hpose, hmap, hstands, hhalts⟩ := State.takeSense_drop hdrop
      exact ⟨_, exec_sense hrun hlen, hflag, hlatch, hpose, hmap, hstands, fun h => hspelled (hhalts h)⟩
    · obtain ⟨hflag, hsensor, hlatch, hhalts, hunmarked, hmarks⟩ := State.takeSense_cliff hmem hdrop hedge hfirst
      refine ⟨_, exec_sense hrun hlen, hflag, hsensor, hlatch, fun h => hspelled (hhalts h), hunmarked, ?_⟩
      intro tx ty hdocked hlost hpoint old new
      obtain ⟨hcliff, hobserved, hcounted, hunsaved⟩ := hmarks tx ty hdocked hlost hpoint
      exact ⟨hcliff, hobserved, hcounted, hunsaved⟩
  · intro s p hrun hlen f lost hdrop hbump hcliff left right side moved t t1 t2
    obtain ⟨n, hn, htaken⟩ := State.takeSense_onlyDrop hdrop hbump hcliff
    have hside : n = side := Option.some.inj (hn.symm.trans (HazardUnit.dropSide_edge hdrop))
    have hedge : ({ lost.levelsMoved f with pose := s.pose } : State).wheelDropEdge side = t2 :=
      State.wheelDropEdge_eq side moved
    rw [exec_sense hrun hlen, htaken, hside, hedge]
  · intro s p sensor hrun hlen f spot mark judge hdrop hbump hedge hcliff u moved t t1
    have hmark {w : State} (hpose : w.pose = s.pose) (htrv : w.trv = s.trv) : w.markPoint (s.projected sensor) = mark w := by
      by_cases hno : s.pose.quality = .lost ∨ s.trv.state = .docked
      · have hspot : spot = none := if_pos hno
        simp only [mark, hspot]
        rw [State.markPoint, hpose, htrv, if_neg (fun h => hno.elim h.1 h.2)]
      · have hspot : spot = pointTile (s.projected sensor).1 (s.projected sensor).2 := if_neg hno
        simp only [mark, hspot]
        rw [State.markPoint, hpose, htrv, if_pos (not_or.mp hno)]
        cases pointTile (s.projected sensor).1 (s.projected sensor).2 with
        | none => rfl
        | some tile => exact State.markTile_eq tile.1 tile.2 w
    have hjudge (j : Sensor) : s.judging sensor j = judge j := by
      simp only [judge, ← hmark (w := s) rfl rfl]
      rfl
    have hmoved : (s.levelsMoved f).withHaz (s.levelsAbout f sensor) = moved := by
      simp only [State.levelsAbout, hjudge]
      rfl
    have hedged : moved.cliffEdge sensor = t1 := by
      have hmarked : ((moved.setLatch sensor.latch).raise (.cliff sensor)).markPoint (moved.projected sensor) = t :=
        hmark (State.raise_pose _ _) (State.raise_trv _ _)
      rw [State.cliffEdge_spelled, hmarked]
      exact if_congr Iff.rfl rfl rfl
    rw [exec_sense hrun hlen, State.takeSense_onlyCliff hdrop hbump hedge (fun j hj => hjudge j ▸ hcliff j hj), hmoved,
      hedged]

end

end Sys2Proof.Machine
end

-- ==== Proofs: what a computation finds ====
section
/-! The target, the ramp, the probe, the bound and the brushes of a computation (R72 to R87, R138, R140). -/

namespace Sys2Proof.Machine

section

variable {s : State}

/-! ## The target (R72, R73, R138, R140) -/

theorem Code.number_lt (c : Code) : c.number < 5 := by cases c <;> decide

/-- The entry of the codes is the one at their place in the table. -/
theorem DockUnit.entry_of_place {d : DockUnit} {e : BeaconEntry}
    (h : e ∈ d.beacon.toList[5 * d.codeL.number + d.codeR.number]?) : d.entry = e := by
  have hleft := d.codeL.number_lt
  have hright := d.codeR.number_lt
  have hplace : (5 * d.codeL.number + d.codeR.number) % 25 = 5 * d.codeL.number + d.codeR.number := by omega
  obtain ⟨hlt, he⟩ := List.getElem?_eq_some_iff.mp h
  simp only [DockUnit.entry, Fin.getElem_fin, hplace]
  rw [← he, Vector.getElem_toList]

theorem State.target_steered (happroach : s.trv.state = .approach) (hsub : s.dock.sub = .align ∨ s.dock.sub = .creep) :
    s.target = some (
      if s.dock.codeL = .none_ ∧ s.dock.codeR = .none_ then ⟨0, 0⟩
      else if s.dock.sub = .align then ⟨s.dock.entry.v, s.dock.entry.w⟩
      else ⟨s.param .creepSpeed, if s.dock.codeL = .near ∧ s.dock.codeR = .near then 0 else s.dock.entry.w⟩) := by
  simp only [State.target, happroach, State.approachTarget]
  rcases hsub with hsub | hsub <;> simp only [hsub] <;> split_ifs <;> simp_all

/-! ## The ramp (R74) -/

/-- The speed first falls to 0 where its goal is 0 or of the other sign. -/
theorem turnsBack_iff (p goal : Int) :
    (p ≠ 0 ∧ (goal = 0 ∨ p.sign ≠ goal.sign)) ↔ (0 < p ∧ goal ≤ 0) ∨ (p < 0 ∧ 0 ≤ goal) := by
  have hsign (n : Int) : n.sign = if n < 0 then -1 else if n = 0 then 0 else 1 := by
    rcases lt_trichotomy n 0 with hn | rfl | hn
    · rw [if_pos hn, Int.sign_eq_neg_one_of_neg hn]
    · rfl
    · rw [if_neg (by omega), if_neg (by omega), Int.sign_eq_one_of_pos hn]
  rw [hsign, hsign]
  split_ifs <;> omega

/-- The seven ways of the ramp (R74). -/
theorem ramp_spec (rise fall p goal : Int) :
    let u := ramp rise fall p goal
    (p = goal → u = p) ∧ (0 < p → goal ≤ 0 → u = max (p - fall) 0) ∧ (p < 0 → 0 ≤ goal → u = min (p + fall) 0) ∧
    (0 ≤ p → p < goal → u = min (p + rise) goal) ∧ (p ≤ 0 → goal < p → u = max (p - rise) goal) ∧
    (0 < goal → goal < p → u = max (p - fall) goal) ∧ (goal < 0 → p < goal → u = min (p + fall) goal) := by
  simp only [ramp, turnsBack_iff, moveToward]
  refine ⟨?_, ?_, ?_, ?_, ?_, ?_, ?_⟩ <;> intros <;> split_ifs <;> omega

/-! ## The probe (R76 to R79) -/

/-- Some ray's sample of index `k` lies in a class (R77). -/
def Rays.Meets (r : Rays) (m : TileMap) (k : Nat) (cls : ClassNo) : Prop := ∃ q ∈ r.samples k, cls = m.classAt q.1 q.2

theorem State.classBlocks_iff (cls : ClassNo) : s.classBlocks cls = true ↔
    (s.map.record cls).blocks = true ∧ ¬(s.trv.state = .approach ∧ cls = 8) := by
  simp only [State.classBlocks, Bool.and_eq_true, Bool.not_eq_true', ← Bool.decide_and, decide_eq_false_iff_not]

theorem State.blockedAt_iff (r : Rays) (k : Nat) :
    s.blockedAt r k = true ↔ ∃ cls, r.Meets s.map k cls ∧ s.classBlocks cls = true := by
  simp only [State.blockedAt, List.any_eq_true, Rays.Meets]
  constructor
  · rintro ⟨q, hq, hblocks⟩
    exact ⟨_, ⟨q, hq, rfl⟩, hblocks⟩
  · rintro ⟨_, ⟨q, hq, rfl⟩, hblocks⟩
    exact ⟨q, hq, hblocks⟩

/-- A sample that blocks, among those the probe takes. -/
def State.Blocked (s : State) (r : Rays) (k : Nat) : Prop :=
  s.pose.quality ≠ .lost ∧ 1 ≤ k ∧ k ≤ 128 ∧ ∃ cls, r.Meets s.map k cls ∧ s.classBlocks cls = true

/-- The blocking distance is that of the nearest sample that blocks, and 1,280 where none does. -/
theorem State.blockingDistance_spec (s : State) (r : Rays) :
    (s.blockingDistance r = 1280 ∧ (∀ k, ¬s.Blocked r k) ∨
      ∃ k, s.Blocked r k ∧ s.blockingDistance r = 10 * ((k : Int) - 1)) ∧
    ∀ k, s.Blocked r k → s.blockingDistance r ≤ 10 * ((k : Int) - 1) := by
  have hmem {k : Nat} (h : s.Blocked r k) : k ∈ List.range' 1 128 ∧ s.blockedAt r k = true :=
    ⟨List.mem_range'_1.mpr (by have := h.2; omega), (s.blockedAt_iff r k).mpr h.2.2.2⟩
  rw [State.blockingDistance]
  split
  next hlost =>
    have hnone (k : Nat) : ¬s.Blocked r k := fun h => h.1 hlost
    exact ⟨.inl ⟨rfl, hnone⟩, fun k h => absurd h (hnone k)⟩
  next hknown =>
    split
    next j hj =>
      have hrange := List.mem_range'_1.mp (List.mem_of_find?_eq_some hj)
      have hblocked : s.Blocked r j :=
        ⟨hknown, hrange.1, by omega, (s.blockedAt_iff r j).mp (List.find?_some hj)⟩
      refine ⟨.inr ⟨j, hblocked, rfl⟩, fun k hk => ?_⟩
      obtain ⟨-, -, hfirst⟩ := List.find?_range'_eq_some.mp hj
      have hle : j ≤ k := not_lt.mp fun hlt => by
        have := hfirst k hk.2.1 hlt
        simp [(hmem hk).2] at this
      omega
    next hnone =>
      have hno (k : Nat) : ¬s.Blocked r k := fun h => by
        have := List.find?_eq_none.mp hnone k (hmem h).1
        exact this (hmem h).2
      exact ⟨.inl ⟨rfl, hno⟩, fun k h => absurd h (hno k)⟩

/-- The three samples of index `k` (R76, R77). -/
theorem Rays.meets_iff (r : Rays) (m : TileMap) (k : Nat) (cls : ClassNo) : r.Meets m k cls ↔
    let dx := 10 * (k : Int) * r.c / 16384
    let dy := 10 * (k : Int) * r.s / 16384
    cls = m.classAt (r.x + dx) (r.y + dy) ∨ cls = m.classAt (r.x + r.ax + dx) (r.y + r.ay + dy) ∨
      cls = m.classAt (r.x - r.ax + dx) (r.y - r.ay + dy) := by
  simp [Rays.Meets, Rays.samples]

/-! ## The bound (R80 to R82) -/

/-- A class cap is that of a class some sample meets, and that does not block (R81). -/
theorem State.mem_classCaps_iff (r : Rays) (b : Int) : b ∈ s.classCaps r ↔
    ∃ k cls, s.pose.quality ≠ .lost ∧ k ≤ s.paramNat .capHorizon / 10 ∧ r.Meets s.map k cls ∧
      ¬s.classBlocks cls = true ∧ b = (s.map.record cls).cap := by
  rw [State.classCaps]
  split
  next hlost => simp [hlost]
  next hknown =>
    simp only [List.mem_flatMap, List.mem_range, State.capsAt, List.mem_filterMap]
    constructor
    · rintro ⟨k, hk, q, hq, hcap⟩
      split at hcap
      · cases hcap
      next hfree => exact ⟨k, _, hknown, by omega, ⟨q, hq, rfl⟩, hfree, (Option.some.inj hcap).symm⟩
    · rintro ⟨k, _, -, hk, ⟨q, hq, rfl⟩, hfree, rfl⟩
      exact ⟨k, by omega, q, hq, if_neg hfree⟩

/-- The terms of the bound but the law speed (R82). -/
theorem State.mem_boundTerms_iff (r : Rays) (u b : Int) : b ∈ s.boundTerms r u ↔
    b ∈ s.classCaps r ∨ u < 0 ∧ b = s.param .reverseCap ∨ s.pose.quality = .degraded ∧ b = s.param .degradedCap ∨
      s.pose.quality = .lost ∧ b = s.param .lostCap ∨ s.trv.state = .limp ∧ b = s.param .limpSpeed ∨
      0 < u ∧ s.haz.anyUnsafe = true ∧ b = 0 := by
  simp only [State.boundTerms, List.mem_append, or_assoc, List.mem_ite_nil_right, List.mem_singleton, and_assoc]

/-- The bound is one of its terms, and the least of them (R82). -/
theorem State.bound_spec (r : Rays) (u d : Int) :
    (s.bound r u d = lawSpeed (s.param .decel) (s.param .margin) d ∨ s.bound r u d ∈ s.boundTerms r u) ∧
    s.bound r u d ≤ lawSpeed (s.param .decel) (s.param .margin) d ∧ ∀ b ∈ s.boundTerms r u, s.bound r u d ≤ b :=
  ⟨foldl_min_mem _ _, s.bound_le_lawSpeed r u d, fun _ hb => foldl_min_le_of_mem hb _⟩

/-! ## The brushes (R86) -/

theorem State.brushes_played {g : Segment} {rest : List Segment} (hstate : s.trv.state = .cruise ∨ s.trv.state = .limp)
    (hqueue : s.seg.queue = g :: rest) :
    s.brushes = (.least g.brush (s.map.record s.centreClass).brush, g.side && (s.map.record s.centreClass).side) := by
  rcases hstate with hstate | hstate <;> simp only [State.brushes, hstate, hqueue]

theorem State.brushes_off (h : s.trv.state = .cruise ∨ s.trv.state = .limp → s.seg.queue = []) :
    s.brushes = (.off, false) := by
  rw [State.brushes]
  split
  next hstate hqueue => exact absurd (hqueue.symm.trans (h (.inl hstate))) (by simp)
  next hstate hqueue => exact absurd (hqueue.symm.trans (h (.inr hstate))) (by simp)
  next => rfl

/-! ## The computation (R71, R83 to R85, R87) -/

/-- The intended speed of a computation (R74). -/
def State.intended (goal : Target) (s : State) : Int :=
  ramp (rampStep (s.param .accel)) (rampStep (s.param .decel)) s.env.p goal.v

theorem sign_eq_iff {m n : Int} (hm : m ≠ 0) (hn : n ≠ 0) : m.sign = n.sign ↔ (0 < m ↔ 0 < n) := by
  have hsign {k : Int} (hk : k ≠ 0) : k.sign = if 0 < k then 1 else -1 := by
    split
    next h => exact Int.sign_eq_one_of_pos h
    next h => exact Int.sign_eq_neg_one_of_neg (by omega)
  rw [hsign hm, hsign hn]
  by_cases h : 0 < m <;> by_cases k : 0 < n <;> simp [h, k]

theorem State.compute_held_iff (goal : Target) : (s.compute goal).held = true ↔
    goal.v ≠ 0 ∧ s.intended goal ≠ 0 ∧ (0 < s.intended goal ↔ 0 < goal.v) ∧ (s.compute goal).bound = 0 := by
  have hheld : (s.compute goal).held = (decide (goal.v ≠ 0) && decide (s.intended goal ≠ 0) &&
    decide ((s.intended goal).sign = goal.v.sign) && decide ((s.compute goal).bound = 0)) := rfl
  rw [hheld]
  simp only [Bool.and_eq_true, decide_eq_true_eq, and_assoc]
  exact and_congr_right fun hv => and_congr_right fun hu => and_congr_left' (sign_eq_iff hu hv)

theorem State.compute_still {goal : Target} (h : s.intended goal = 0) :
    (s.compute goal).d = 1280 ∧ (s.compute goal).bound = 0 := ⟨if_pos h, if_pos h⟩

theorem State.compute_moving {goal : Target} (h : s.intended goal ≠ 0) :
    let r := s.rays (probeHeading s.pose.h (s.intended goal))
    (s.compute goal).d = s.blockingDistance r ∧
    (s.compute goal).bound = s.bound r (s.intended goal) (s.compute goal).d :=
  ⟨if_neg h, if_neg h⟩

/-- Settles O53: the target by travel state, and a computation's ramp, cut, probe, bound and brushes by their rules. -/
theorem computationFollowsTheTargetWithinTheBound : Obligations.ComputationFollowsTheTargetWithinTheBound := by
  unfold Obligations.ComputationFollowsTheTargetWithinTheBound
  refine ⟨?_, ?_⟩
  · intro s dark near place
    have hleft := s.dock.codeL.number_lt
    have hright := s.dock.codeR.number_lt
    refine ⟨fun h => ?_, fun h g hg => ?_, fun h => ?_, fun ⟨h, hsub⟩ => ?_, fun ⟨h, hsub⟩ e he => ?_,
      State.target_stopped, ?_⟩
    · simp only [State.target, h]
    · obtain ⟨rest, hqueue⟩ := List.head?_eq_some_iff.mp hg
      rcases h with h | h <;> simp only [State.target, h, hqueue]
    · simp only [State.target, h]
    · simp only [State.target, h, State.approachTarget, hsub]
    · rw [State.target_steered h hsub, DockUnit.entry_of_place he]
    · rw [Vector.length_toList]
      omega
  · intro s goal htables htarget p rise fall c q limit xmm ymm blocks centre
    have hc : c = s.compute goal := State.computation_some htarget
    have hwheel (n : Int) : s.wheel n = max (-limit) (min limit n) := by
      have hmax : (100 : Int) ≤ limit := (htables.1.row .wheelMax).1
      exact clampInt_eq (by omega) n
    refine ⟨?_, s.intended goal, ?_⟩
    · have hbrush : c.brush = s.brushes.1 ∧ c.side = s.brushes.2 := by
        rw [hc]
        exact ⟨rfl, rfl⟩
      rw [hbrush.1, hbrush.2]
      have hplayed {g : Segment} {rest : List Segment} (hstate : s.trv.state = .cruise ∨ s.trv.state = .limp)
          (hqueue : s.seg.queue = g :: rest) :
          s.brushes.1 = (if g.brush.number ≤ centre.brush.number then g.brush else centre.brush) ∧
          (s.brushes.2 = true ↔ g.side = true ∧ centre.side = true) := by
        rw [State.brushes_played hstate hqueue]
        exact ⟨rfl, Bool.and_eq_true_iff⟩
      split
      next hstate hqueue => exact hplayed (.inl hstate) hqueue
      next hstate hqueue => exact hplayed (.inr hstate) hqueue
      next hcruise hlimp =>
        have hnil (h : s.trv.state = .cruise ∨ s.trv.state = .limp) : s.seg.queue = [] := by
          cases hqueue : s.seg.queue with
          | nil => rfl
          | cons g rest => exact (h.elim (fun h => hcruise g rest h hqueue) fun h => hlimp g rest h hqueue).elim
        rw [State.brushes_off hnil]
        exact ⟨rfl, rfl⟩
    · obtain ⟨h1, h2, h3, h4, h5, h6, h7⟩ := ramp_spec rise fall p goal.v
      refine ⟨h1, h2, h3, h4, h5, h6, h7, ?_, ?_, ?_, ?_, ?_, ?_, ?_⟩
      · rw [hc]
        rfl
      · rw [hc]
        rfl
      · rw [← hwheel]
        simp only [q, hc]
        rfl
      · rw [← hwheel]
        simp only [q, hc]
        rfl
      · rw [hc]
        exact State.compute_held_iff goal
      · rw [hc]
        exact State.compute_still
      · intro hu i ax ay law sampled capped term met
        let r := s.rays (probeHeading s.pose.h (s.intended goal))
        have hd : c.d = s.blockingDistance r := (congrArg Computation.d hc).trans (State.compute_moving hu).1
        have hbound : c.bound = s.bound r (s.intended goal) c.d := by
          simp only [hc]
          exact (State.compute_moving hu).2
        have hblocks (cls : ClassNo) : s.classBlocks cls = true ↔ blocks cls := State.classBlocks_iff cls
        have hsampled (k : Nat) (cls : ClassNo) : r.Meets s.map k cls ↔ sampled k cls := Rays.meets_iff r s.map k cls
        have hmet (k : Nat) : s.Blocked r k ↔ met k := by
          simp only [State.Blocked, hsampled, hblocks]
          exact Iff.rfl
        have hcapped (b : Int) : b ∈ s.classCaps r ↔ capped b := by
          simp only [State.mem_classCaps_iff, hsampled, hblocks]
          exact Iff.rfl
        have hterm (b : Int) : b = law ∨ b ∈ s.boundTerms r (s.intended goal) ↔ term b := by
          rw [State.mem_boundTerms_iff, hcapped]
        obtain ⟨hnear, hnearest⟩ := s.blockingDistance_spec r
        obtain ⟨hone, hlaw, hleast⟩ := State.bound_spec (s := s) r (s.intended goal) c.d
        rw [← hbound] at hone hlaw hleast
        have hdistance := (s.blockingDistance_range r).2
        simp only [hmet] at hnear hnearest
        rw [← hd] at hnear hnearest hdistance
        refine ⟨?_, (hterm _).mp hone, fun b hb => ?_, hnear, hnearest⟩
        · rw [hbound]
          exact (State.bound_range htables.1 r _ hdistance).1
        · rcases (hterm b).mpr hb with rfl | hmem
          · exact hlaw
          · exact hleast b hmem

end

end Sys2Proof.Machine
end
